-- ==== Sys2Proof/Word.lean ====
section
/-! DEFINITION. The word types of the block: bytes on the wire, s16 operands, and the 32-bit PID, counter and
time words of the reference configuration (00_scope R6, R7, R8). -/

namespace Sys2Proof

/-- A byte on a port or in a frame (u8). -/
abbrev Byte := BitVec 8

/-- A 16-bit field: an s16 parameter or telemetry value, two's complement (R8). -/
abbrev Half := BitVec 16

/-- A 32-bit register: s32 Q15.16 PID data, u(TW) time, u(CW) counters, or the raw float slot (R7). -/
abbrev Word := BitVec 32

end Sys2Proof
end

