-- ==== Sys2Proof/Config.lean ====
section
/-! DEFINITION. The block's parameters (00_scope R6) in the reference configuration (R7), and the free values:
the OPEN power-on parameters, the division by zero and the ill-formed clamp, constants with no body. -/

namespace Sys2Proof.Config

/-- START, the 1-byte start marker (R6). -/
def startMarker : Byte := 0xAA

/-- END, the 1-byte end marker (R6). -/
def endMarker : Byte := 0xA8

/-- TELEM_OP, the opcode of every outbound telemetry frame (R6). -/
def telemOp : Byte := 0x01

/-- FB, the fractional bits of the PID fixed-point format (R6, R11). -/
def fb : Nat := 16

/-- 2^FB, the fixed-point scale (R11). -/
def fxOne : Int := 2 ^ fb

/-- LIM = 50 * 2^FB, the servo limit as a Q15.16 value (R6, 42_pid section on notation). -/
def servoLimit : Int := 50 * fxOne

/-- 2^CW - 1, the value at which a telemetry counter saturates (10_state R27). -/
def counterMax : Nat := 2 ^ 32 - 1

/-- KP_INIT, OPEN (R6, D21): the power-on proportional gain. No value is assumed (log 3). -/
opaque kpInit : Word

/-- KI_INIT, OPEN (R6, D21; log 3). -/
opaque kiInit : Word

/-- KD_INIT, OPEN (R6, D21; log 3). -/
opaque kdInit : Word

/-- MAXI_INIT, OPEN with 0 ≤ MAXI_INIT ≤ 2^31 - 1 (R6, D21): 31 bits wide, so that the bound always holds (log 3). -/
opaque maxiInit : BitVec 31

/-- DIRNEG_INIT, OPEN, 0 or 1 (R6, D21; log 3). -/
opaque dirNegInit : Bool

/-- SGAIN_INIT, OPEN (R6, D21; log 3). -/
opaque sgainInit : Word

/-- What tdiv(a, b) gives where b = 0, which R9 leaves undefined: a free value (log 18). No step divides by zero
(70_reset_and_hazards R241). -/
opaque tdivByZero : Int → Int

/-- What clamp(x, lo, hi) gives where lo > hi, which R9 leaves undefined (N9): a free value (log 13). -/
opaque illFormedClamp : Int → Int → Int → Word

end Sys2Proof.Config
end

