-- ==== Sys2Proof/Machine/Operands.lean ====
section
/-! DEFINITION. Operand forms: the bytes of a field and a field of its bytes (00_scope R9, 20_memory R61, 30_encoding
R85, R86), and the narrowing of an exact result to a 32-bit register (42_pid R163). -/

namespace Sys2Proof.Machine

/-- lo8(v) = v[7:0] (R9). -/
def lo8 (v : Half) : Byte := v.extractLsb' 0 8

/-- hi8(v) = v[15:8] (R9). -/
def hi8 (v : Half) : Byte := v.extractLsb' 8 8

/-- The 16-bit field whose lower byte is `lo`: { hi, lo } of R85. Its signed reading is sext_16. -/
def join16 (lo hi : Byte) : Half := hi ++ lo

/-- Byte k of a 32-bit value, byte 0 the least significant (R61). -/
def byteOf (v : Word) (k : Nat) : Byte := v.extractLsb' (8 * k) 8

/-- The 32-bit field of four bytes, the first the least significant: { b3, b2, b1, b0 } of R85. -/
def join32 (b0 b1 b2 b3 : Byte) : Word := b3 ++ b2 ++ b1 ++ b0

/-- The float view { int2, int1 } of two parameters (20_memory R62). -/
def floatView (int1 int2 : Half) : Word := int2 ++ int1

/-- The 32-bit register contents of an exact integer that fits s32. -/
def narrow32 (v : Int) : Word := BitVec.ofInt 32 v

end Sys2Proof.Machine
end

