-- ==== Sys2Proof/Syntax.lean ====
section
/-! DEFINITION. What the ports are offered in one step (10_state R29, R31, R44; 70_reset_and_hazards R230) and the
instructions: one constructor of `Instr` per row of spec/opcode_table.json (30_encoding R80). -/

namespace Sys2Proof

/-- RX_STATE (10_state R22). The spec's 2-bit code 3 is never written; the type does not have it (K10). -/
inductive RxState where
  /-- SEEK = 0, "SeekingStart". -/
  | seek
  /-- BODY = 1, "CollectingBody". -/
  | body
  /-- END = 2, "ExpectingEnd". -/
  | endMark
deriving DecidableEq, Repr

/-- The part of the link unit that selects the row a received byte takes (41_link_fsm R131). -/
structure RxView where
  /-- RX_STATE. -/
  state : RxState
  /-- RX_IDX. -/
  idx : Fin 8
  /-- RX_ACC. -/
  acc : Byte
  /-- RX_BUF[6], the received checksum. -/
  chk : Byte
deriving DecidableEq, Repr

/-- The operands of the transmit port with tx_req = 1 (10_state R31). -/
structure TxRequest where
  /-- tx_steer, s16. -/
  steer : Half
  /-- tx_err, s16. -/
  err : Half
  /-- tx_tgt, s16. -/
  tgt : Half
deriving DecidableEq, Repr

/-- The fields of the PID command port with cmd_valid = 1 (10_state R44). -/
structure PidCommand where
  /-- cmd_op, u4. -/
  op : BitVec 4
  /-- cmd_data, s32. -/
  data : Word
  /-- cmd_now, u(TW). -/
  now : Word
deriving DecidableEq, Repr

/-- One application of the port inputs (00_scope R12): an absent port has its valid or request bit at 0. -/
structure StepInput where
  /-- rst, the block reset input (R230). -/
  rst : Bool
  /-- rx_byte, present when rx_valid = 1 (R29). -/
  rx : Option Byte
  /-- The transmit operands, present when tx_req = 1 (R31). -/
  tx : Option TxRequest
  /-- The PID command, present when cmd_valid = 1 (R44). -/
  cmd : Option PidCommand
deriving DecidableEq, Repr

/-- A step with every port idle. -/
def StepInput.idle : StepInput := { rst := false, rx := none, tx := none, cmd := none }

/-- The three ports (30_encoding R80). -/
inductive Port where
  /-- The receive port of the link unit. -/
  | receive
  /-- The transmit port of the link unit. -/
  | transmit
  /-- The command port of the PID unit. -/
  | command
deriving DecidableEq, Repr

/-- One operation as it stands on the wires of its port (30_encoding R80). -/
inductive PortOp where
  /-- RX_BYTE. -/
  | rx (b : Byte)
  /-- TX_ENCODE. -/
  | tx (r : TxRequest)
  /-- A PID command. -/
  | cmd (c : PidCommand)
deriving DecidableEq, Repr

/-- The port an operation stands on. -/
def PortOp.port : PortOp → Port
  | .rx _ => .receive
  | .tx _ => .transmit
  | .cmd _ => .command

/-- Why the decoder rejects what it is given. -/
inductive DecodeError where
  /-- The number of bytes is not the length of a word of the port (log 4). -/
  | wrongLength
  /-- A bit is set where the port has no wire: bits 7 to 1 of a transmit word, 7 to 4 of a command word (log 4). -/
  | noSuchWire
  /-- A transmit word with tx_req = 0: no request, so no operation (R111). -/
  | noRequest
  /-- A received byte in a (RX_STATE, RX_IDX) pair to which R131 gives no transition (log 7). -/
  | parserUnreachable
deriving DecidableEq, Repr

/-- The instructions: one constructor per row of spec/opcode_table.json. A receive row carries the byte where the
row's own condition does not fix it; a command row carries the operands its rule uses (R84). -/
inductive Instr where
  /-- RX.SEEK_START (R132): the byte 0xAA in SEEK. -/
  | rxSeekStart
  /-- RX.SEEK_DISCARD (R133): any other byte in SEEK. -/
  | rxSeekDiscard (b : Byte)
  /-- RX.BODY_SUM (R135): a body byte at offset 1 to 5. -/
  | rxBodySum (b : Byte)
  /-- RX.BODY_CHK (R136): the received checksum, offset 6. -/
  | rxBodyChk (b : Byte)
  /-- RX.END_ACCEPT (R137): the end marker, and the checksum matches. -/
  | rxEndAccept
  /-- RX.END_CHKERR (R138): the end marker, and the checksum does not match. -/
  | rxEndChkerr
  /-- RX.END_FRAMERR (R139): any other byte in END. -/
  | rxEndFramerr (b : Byte)
  /-- TX.ENCODE (R111). -/
  | txEncode (steer err tgt : Half)
  /-- PID.NOP (R161). -/
  | pidNop
  /-- PID.RESET (R162). -/
  | pidReset (now : Word)
  /-- PID.UPDATE (R163). -/
  | pidUpdate (tgt now : Word)
  /-- PID.WR_KP (R164). -/
  | pidWrKp (v : Word)
  /-- PID.WR_KI (R165). -/
  | pidWrKi (v : Word)
  /-- PID.WR_KD (R166). -/
  | pidWrKd (v : Word)
  /-- PID.WR_MAXI (R167). -/
  | pidWrMaxi (v : Word)
  /-- PID.WR_DIR (R168). -/
  | pidWrDir (v : Word)
  /-- PID.WR_SGAIN (R169). -/
  | pidWrSgain (v : Word)
  /-- PID.RESERVED_9 (R170): cmd_op 0x9. -/
  | pidReserved9
  /-- PID.RESERVED_AB (R170): cmd_op 0xA or 0xB; `low` is bit 0 of cmd_op. -/
  | pidReservedAB (low : BitVec 1)
  /-- PID.RESERVED_CF (R170): cmd_op 0xC to 0xF; `low` is bits 1 to 0 of cmd_op. -/
  | pidReservedCF (low : BitVec 2)
deriving DecidableEq, Repr

end Sys2Proof
end

