-- ==== Sys2Proof/WellFormed.lean ====
section
/-! DEFINITION. Which terms of `Instr` are instructions of the table: the two rows that take "any other byte" exclude
the marker their sibling rows take (41_link_fsm R133, R139). Every other term is well-formed, by its types. -/

namespace Sys2Proof

/-- The conditions of the table's rows on their own operands. -/
def Instr.wellFormed : Instr → Bool
  | .rxSeekStart => true
  | .rxSeekDiscard b => b != Config.startMarker
  | .rxBodySum _ => true
  | .rxBodyChk _ => true
  | .rxEndAccept => true
  | .rxEndChkerr => true
  | .rxEndFramerr b => b != Config.endMarker
  | .txEncode _ _ _ => true
  | .pidNop => true
  | .pidReset _ => true
  | .pidUpdate _ _ => true
  | .pidWrKp _ => true
  | .pidWrKi _ => true
  | .pidWrKd _ => true
  | .pidWrMaxi _ => true
  | .pidWrDir _ => true
  | .pidWrSgain _ => true
  | .pidReserved9 => true
  | .pidReservedAB _ => true
  | .pidReservedCF _ => true

end Sys2Proof
end

