-- ==== Sys2Proof/Decode.lean ====
section
/-! DEFINITION. The decoder: from the wires of a port to an instruction (41_link_fsm R131, 30_encoding R84), from the
bytes of a word to the wires (layout: log 4), and from a word of the opcode table (log 5); then the encoder. -/

namespace Sys2Proof

/-- R131: the row a received byte takes. In SEEK any index selects the two SEEK rows; in BODY and END only the indices
R131 lists do, and any other pair is rejected by name (log 7). The row is a function of the byte and the parser alone: a telemetry frame whose
offset 7 is 0xA8 ends as an inbound frame of the same bytes does (R91, D41; ruling in log 15). -/
def decodeRx (v : RxView) (b : Byte) : Except DecodeError Instr :=
  match v.state with
  | .seek => if b = Config.startMarker then .ok .rxSeekStart else .ok (.rxSeekDiscard b)
  | .body =>
    if 1 ≤ v.idx.val ∧ v.idx.val ≤ 5 then .ok (.rxBodySum b)
    else if v.idx.val = 6 then .ok (.rxBodyChk b)
    else .error .parserUnreachable
  | .endMark =>
    if v.idx.val = 7 then
      if b = Config.endMarker then
        if v.acc = v.chk then .ok .rxEndAccept else .ok .rxEndChkerr
      else .ok (.rxEndFramerr b)
    else .error .parserUnreachable

/-- R84: the command cmd_op selects; every one of the 16 op codes is a row. The op test comes before any value test
(60_exceptions R204). -/
def decodeCmd (c : PidCommand) : Instr :=
  match c.op.toNat with
  | 0x0 => .pidNop
  | 0x1 => .pidReset c.now
  | 0x2 => .pidUpdate c.data c.now
  | 0x3 => .pidWrKp c.data
  | 0x4 => .pidWrKi c.data
  | 0x5 => .pidWrKd c.data
  | 0x6 => .pidWrMaxi c.data
  | 0x7 => .pidWrDir c.data
  | 0x8 => .pidWrSgain c.data
  | 0x9 => .pidReserved9
  | 0xA => .pidReservedAB 0
  | 0xB => .pidReservedAB 1
  | _ => .pidReservedCF (c.op.extractLsb' 0 2)

/-- The instruction an operation on a port is, given what selects the receive rows. -/
def decodeOp (v : RxView) : PortOp → Except DecodeError Instr
  | .rx b => decodeRx v b
  | .tx r => .ok (.txEncode r.steer r.err r.tgt)
  | .cmd c => .ok (decodeCmd c)

/-- The bytes of a word of a port, read onto its wires (log 4): a receive word is the byte; a transmit word is tx_req
in bit 0 of its first byte, then the three operands; a command word is cmd_op in bits 3 to 0 of its first byte, then
cmd_data and cmd_now; every operand little-endian. -/
def portOpOfBytes : Port → List Byte → Except DecodeError PortOp
  | .receive, [b] => .ok (.rx b)
  | .transmit, [c, s0, s1, e0, e1, t0, t1] =>
    if c = 1 then
      .ok (.tx { steer := Machine.join16 s0 s1, err := Machine.join16 e0 e1, tgt := Machine.join16 t0 t1 })
    else if c = 0 then .error .noRequest
    else .error .noSuchWire
  | .command, [c, d0, d1, d2, d3, n0, n1, n2, n3] =>
    if c.toNat < 16 then
      .ok (.cmd { op := c.setWidth 4, data := Machine.join32 d0 d1 d2 d3, now := Machine.join32 n0 n1 n2 n3 })
    else .error .noSuchWire
  | _, _ => .error .wrongLength

/-- The decoder, total on any bytes at any port. -/
def decodeBytes (p : Port) (v : RxView) (bs : List Byte) : Except DecodeError Instr :=
  match portOpOfBytes p bs with
  | .ok o => decodeOp v o
  | .error e => .error e

/-- How many bytes a word of a port has (log 4). -/
def portLength : Port → Nat
  | .receive => 1
  | .transmit => 7
  | .command => 9

/-- The first `n` bytes of a number, the least significant first. -/
def wordBytes (n w : Nat) : List Byte := (List.range n).map fun k => BitVec.ofNat 8 (w / 256 ^ k)

/-- The port a word of the opcode table belongs to; the table's words do not name their port, so this is the model's
choice (log 5): the byte 0x01 is the transmit row's word, any other byte below 0x10 a command, the rest received bytes. -/
def portOfTableWord (w : Nat) : Port :=
  if w % 256 = 1 then .transmit else if w % 256 < 16 then .command else .receive

/-- The parser view under which a table word of the receive port is read (log 5): 0xAA in SEEK; 0xA8 in END with a
matching checksum; for any other byte, by the bits at which the table gives the receive rows their RX_IDX field: bit 7
END, bit 6 BODY at index 6, else an even byte BODY at index 1 and an odd byte SEEK. -/
def viewOfTableWord (w : Nat) : RxView :=
  let b := w % 256
  if b = 0xAA then { state := .seek, idx := 0, acc := 0, chk := 0 }
  else if 0x80 ≤ b then { state := .endMark, idx := 7, acc := 0, chk := 0 }
  else if 0x40 ≤ b then { state := .body, idx := 6, acc := 0, chk := 0 }
  else if b % 2 = 0 then { state := .body, idx := 1, acc := 0, chk := 0 }
  else { state := .seek, idx := 0, acc := 0, chk := 0 }

/-- The bytes of the word of the opcode table whose lowest `nbits` bits are `w`, zero above; none where it is longer
than a word of its port. -/
def tableWordBytes (nbits w : Nat) : Option (List Byte) :=
  let w' := w % 2 ^ nbits
  let n := portLength (portOfTableWord w')
  if w' < 256 ^ n then some (wordBytes n w') else none

/-- The instruction of a word of the opcode table (log 5). -/
def decodeTableWord (nbits w : Nat) : Option Instr :=
  match tableWordBytes nbits w with
  | some bs =>
    match decodeBytes (portOfTableWord (w % 2 ^ nbits)) (viewOfTableWord (w % 2 ^ nbits)) bs with
    | .ok i => some i
    | .error _ => none
  | none => none

/-! The encoder. -/

/-- The wires that carry an instruction (R80, R84); operands a rule ignores are zero. -/
def encodeOp : Instr → PortOp
  | .rxSeekStart => .rx 0xAA
  | .rxSeekDiscard b => .rx b
  | .rxBodySum b => .rx b
  | .rxBodyChk b => .rx b
  | .rxEndAccept => .rx 0xA8
  | .rxEndChkerr => .rx 0xA8
  | .rxEndFramerr b => .rx b
  | .txEncode steer err tgt => .tx { steer := steer, err := err, tgt := tgt }
  | .pidNop => .cmd { op := 0x0, data := 0, now := 0 }
  | .pidReset now => .cmd { op := 0x1, data := 0, now := now }
  | .pidUpdate tgt now => .cmd { op := 0x2, data := tgt, now := now }
  | .pidWrKp v => .cmd { op := 0x3, data := v, now := 0 }
  | .pidWrKi v => .cmd { op := 0x4, data := v, now := 0 }
  | .pidWrKd v => .cmd { op := 0x5, data := v, now := 0 }
  | .pidWrMaxi v => .cmd { op := 0x6, data := v, now := 0 }
  | .pidWrDir v => .cmd { op := 0x7, data := v, now := 0 }
  | .pidWrSgain v => .cmd { op := 0x8, data := v, now := 0 }
  | .pidReserved9 => .cmd { op := 0x9, data := 0, now := 0 }
  | .pidReservedAB low => .cmd { op := 0b101#3 ++ low, data := 0, now := 0 }
  | .pidReservedCF low => .cmd { op := 0b11#2 ++ low, data := 0, now := 0 }

/-- The bytes of an operation, in the layout `portOpOfBytes` reads (log 4). -/
def bytesOfPortOp : PortOp → List Byte
  | .rx b => [b]
  | .tx r =>
    [1, Machine.lo8 r.steer, Machine.hi8 r.steer, Machine.lo8 r.err, Machine.hi8 r.err,
      Machine.lo8 r.tgt, Machine.hi8 r.tgt]
  | .cmd c =>
    [c.op.setWidth 8, Machine.byteOf c.data 0, Machine.byteOf c.data 1, Machine.byteOf c.data 2,
      Machine.byteOf c.data 3, Machine.byteOf c.now 0, Machine.byteOf c.now 1, Machine.byteOf c.now 2,
      Machine.byteOf c.now 3]

/-- The port an instruction's word stands on. -/
def Instr.port (i : Instr) : Port := (encodeOp i).port

/-- The word of an instruction, as bytes. -/
def encode (i : Instr) : List Byte := bytesOfPortOp (encodeOp i)

/-- The condition of the instruction's row on the parser (the RX_STATE, RX_IDX and checksum columns of the table, R131);
rows of the other ports have none. -/
def RxView.selects (v : RxView) : Instr → Bool
  | .rxSeekStart => v.state == .seek
  | .rxSeekDiscard _ => v.state == .seek
  | .rxBodySum _ => v.state == .body && decide (1 ≤ v.idx.val) && decide (v.idx.val ≤ 5)
  | .rxBodyChk _ => v.state == .body && decide (v.idx.val = 6)
  | .rxEndAccept => v.state == .endMark && decide (v.idx.val = 7) && v.acc == v.chk
  | .rxEndChkerr => v.state == .endMark && decide (v.idx.val = 7) && v.acc != v.chk
  | .rxEndFramerr _ => v.state == .endMark && decide (v.idx.val = 7)
  | .txEncode _ _ _ => true
  | .pidNop => true
  | .pidReset _ => true
  | .pidUpdate _ _ => true
  | .pidWrKp _ => true
  | .pidWrKi _ => true
  | .pidWrKd _ => true
  | .pidWrMaxi _ => true
  | .pidWrDir _ => true
  | .pidWrSgain _ => true
  | .pidReserved9 => true
  | .pidReservedAB _ => true
  | .pidReservedCF _ => true

end Sys2Proof
end

