-- ==== Sys2Proof/Machine/Codec.lean ====
section
/-! DEFINITION. The pure functions of the wire codec (40_wire_codec R112 to R117): the checksum, the telemetry encoder
and the parameter decoder, which the block uses, and the two host-side helpers, which are not hardware (R110). -/

namespace Sys2Proof.Machine

/-- cks(f, a, b) of R113: the unsigned sum of the bytes at offsets a to b inclusive, modulo 256. -/
def cks (f : List Byte) (a b : Nat) : Byte :=
  BitVec.ofNat 8 (((f.drop a).take (b + 1 - a)).map BitVec.toNat).sum

/-- Offsets 0 to 7 of a telemetry frame (R112): everything before its checksum. -/
def telemetryHead (s e t : Half) : List Byte :=
  [Config.startMarker, Config.telemOp, lo8 s, hi8 s, lo8 e, hi8 e, lo8 t, hi8 t]

/-- encode_telemetry(s, e, t) of R112: the 10-byte frame of 30_encoding R82. -/
def encodeTelemetry (s e t : Half) : Vector Byte 10 :=
  #v[Config.startMarker, Config.telemOp, lo8 s, hi8 s, lo8 e, hi8 e, lo8 t, hi8 t,
    cks (telemetryHead s e t) 1 7, Config.endMarker]

/-- The opcode and the two views of the parameters that decode_params returns (R114). -/
structure Params where
  /-- The opcode byte. -/
  opcode : Byte
  /-- int1, s16. -/
  int1 : Half
  /-- int2, s16. -/
  int2 : Half
  /-- fbits, u32. -/
  fbits : Word
deriving DecidableEq, Repr

/-- decode_params(B) of R114 (R85). -/
def decodeParams (b : Vector Byte 8) : Params :=
  { opcode := b[1], int1 := join16 b[2] b[3], int2 := join16 b[4] b[5], fbits := join32 b[2] b[3] b[4] b[5] }

/-- What decode_telemetry returns (R116). -/
structure Telemetry where
  /-- The markers and the checksum are right. -/
  ok : Bool
  /-- The steering command, s16. -/
  steer : Half
  /-- The angle error, s16. -/
  err : Half
  /-- The target angle, s16. -/
  tgt : Half
deriving DecidableEq, Repr

/-- decode_telemetry(f) of R116, host-side. It does not check the opcode. -/
def decodeTelemetry (f : Vector Byte 10) : Telemetry :=
  { ok := f[0] == Config.startMarker && f[9] == Config.endMarker && f[8] == cks f.toList 1 7,
    steer := join16 f[2] f[3], err := join16 f[4] f[5], tgt := join16 f[6] f[7] }

/-- Offsets 0 to 5 of a command frame (R117): everything before its checksum. -/
def commandHead (op : Byte) (p1 p2 : Half) : List Byte :=
  [Config.startMarker, op, lo8 p1, hi8 p1, lo8 p2, hi8 p2]

/-- encode_command(op, p1, p2) of R117, host-side: the 8-byte frame of 30_encoding R81. -/
def encodeCommand (op : Byte) (p1 p2 : Half) : Vector Byte 8 :=
  #v[Config.startMarker, op, lo8 p1, hi8 p1, lo8 p2, hi8 p2, cks (commandHead op p1 p2) 1 5, Config.endMarker]

/-- The 32-bit float form of encode_command (R117): the same frame with the two halves of `bits` as parameters. -/
def encodeCommandF (op : Byte) (bits : Word) : Vector Byte 8 :=
  encodeCommand op (bits.extractLsb' 0 16) (bits.extractLsb' 16 16)

end Sys2Proof.Machine
end

