-- ==== Sys2Proof/Machine/State.lean ====
section
/-! DEFINITION. Every piece of state the spec gives the block (10_state R22 to R43), as plain data: the receive side and
the transmit side of the link unit, and the PID unit (R32, R45); the reasons a step can stop; the state after the block
reset (R50). -/

namespace Sys2Proof.Machine

/-- RX_EVENT (R28). -/
inductive RxEvent where
  /-- NONE = 0. -/
  | none
  /-- ACCEPT = 1. -/
  | accept
  /-- FRAMING_ERR = 2. -/
  | framingErr
  /-- CHECKSUM_ERR = 3. -/
  | checksumErr
deriving DecidableEq, Repr

/-- CMD_STATUS (R43). The spec's 2-bit code 3 is never written; the type does not have it (K10). -/
inductive CmdStatus where
  /-- OK = 0. -/
  | ok
  /-- OUT_OF_RANGE = 1. -/
  | outOfRange
  /-- ILLEGAL_OP = 2. -/
  | illegalOp
deriving DecidableEq, Repr

/-- The receive side of the link unit (R22 to R28). -/
structure RxUnit where
  /-- RX_STATE, internal (R22). -/
  rxState : RxState
  /-- RX_IDX, u3, internal: the index of the next RX_BUF byte to be filled (R23). -/
  rxIdx : Fin 8
  /-- RX_ACC, u8, internal: the running checksum accumulator (R24). -/
  rxAcc : Byte
  /-- RX_BUF[0..7], internal (R25). -/
  rxBuf : Vector Byte 8
  /-- RX_OPCODE, u8 (R26). -/
  rxOpcode : Byte
  /-- RX_INT1, s16 (R26). -/
  rxInt1 : Half
  /-- RX_INT2, s16 (R26). -/
  rxInt2 : Half
  /-- RX_FBITS, u32, the raw bits of the float slot (R26, R115). -/
  rxFbits : Word
  /-- GOOD_CNT, u(CW) (R27). -/
  goodCnt : Word
  /-- FRM_CNT, u(CW) (R27). -/
  frmCnt : Word
  /-- CHK_CNT, u(CW) (R27). -/
  chkCnt : Word
  /-- RX_EVENT (R28). -/
  rxEvent : RxEvent
deriving DecidableEq, Repr

/-- The transmit side of the link unit (R30). -/
structure TxUnit where
  /-- TX_FRAME[0..9] (R30). -/
  txFrame : Vector Byte 10
  /-- TX_VALID (R30). -/
  txValid : Bool
deriving DecidableEq, Repr

/-- The PID unit (R33 to R43). -/
structure PidUnit where
  /-- KP, s32 Q15.16 (R33). -/
  kp : Word
  /-- KI, s32 Q15.16 (R33). -/
  ki : Word
  /-- KD, s32 Q15.16 (R33). -/
  kd : Word
  /-- MAXI, s32 Q15.16, never negative (R34). -/
  maxi : Word
  /-- DIR_NEG: true is steering_direction −1 (R35). -/
  dirNeg : Bool
  /-- SGAIN, s32 Q15.16; no operation reads it (R36). -/
  sgain : Word
  /-- I_ACC, s32 Q15.16 (R37). -/
  iAcc : Word
  /-- PREV_ERR, s32 Q15.16 (R38). -/
  prevErr : Word
  /-- PREV_TIME, u(TW) (R39). -/
  prevTime : Word
  /-- SERVO_OUT, s32 Q15.16 (R40). -/
  servoOut : Word
  /-- TB_VALID (R41). -/
  tbValid : Bool
  /-- DT_ZERO (R42). -/
  dtZero : Bool
  /-- CMD_STATUS (R43). -/
  cmdStatus : CmdStatus
deriving DecidableEq, Repr

/-- The whole machine. `inputs` is the model's own field: what the ports are offered in the steps to come, the next
step's first (R249's finite list of steps; log 1). -/
structure State where
  /-- The receive side of the link unit. -/
  rx : RxUnit
  /-- The transmit side of the link unit. -/
  tx : TxUnit
  /-- The PID unit. -/
  pid : PidUnit
  /-- The port inputs of the steps to come (the model's own field). -/
  inputs : List StepInput
deriving DecidableEq, Repr

/-- Why a step stops with a fault. -/
inductive Fault where
  /-- Raised by a step that offers a byte while (RX_STATE, RX_IDX) is a pair to which R131 gives no transition. Safe:
  R131 says no such pair is reachable, and no run from reset meets it (log 7). -/
  | parserUnreachable
deriving DecidableEq, Repr

/-- Why an instruction is refused. -/
inductive Refusal where
  /-- Raised by an arm of exec whose instruction has no meaning yet; none is left. Safe. -/
  | notModelled (mnemonic : String)
  /-- Raised by a receive row run by exec where the row's own condition (R131 to R139) does not hold, so that the spec
  gives it no effect there. A step never raises it. Safe (log 6). -/
  | rowNotSelected
deriving DecidableEq, Repr

/-- What a meaning or a step answers. -/
abbrev Result := Host.Outcome State Fault Refusal

/-- The receive side after the block reset (R50). -/
def RxUnit.reset : RxUnit :=
  { rxState := .seek, rxIdx := 0, rxAcc := 0, rxBuf := #v[0, 0, 0, 0, 0, 0, 0, 0],
    rxOpcode := 0, rxInt1 := 0, rxInt2 := 0, rxFbits := 0,
    goodCnt := 0, frmCnt := 0, chkCnt := 0, rxEvent := .none }

/-- The transmit side after the block reset (R50). -/
def TxUnit.reset : TxUnit :=
  { txFrame := #v[0, 0, 0, 0, 0, 0, 0, 0, 0, 0], txValid := false }

/-- The PID unit after the block reset (R50): the OPEN power-on settings (R6, log 3) and zeroed dynamic state. -/
def PidUnit.reset : PidUnit :=
  { kp := Config.kpInit, ki := Config.kiInit, kd := Config.kdInit,
    maxi := Config.maxiInit.setWidth 32, dirNeg := Config.dirNegInit, sgain := Config.sgainInit,
    iAcc := 0, prevErr := 0, prevTime := 0, servoOut := 0,
    tbValid := false, dtZero := false, cmdStatus := .ok }

/-- The machine right after the block reset (R50, R231), with no input listed (log 1). -/
def State.reset : State :=
  { rx := .reset, tx := .reset, pid := .reset, inputs := [] }

end Sys2Proof.Machine
end

