-- ==== Sys2Proof/Machine/Arith.lean ====
section
/-! DEFINITION. The integer primitives of 00_scope R9 and the terms of UPDATE (42_pid R163), on exact integers. -/

namespace Sys2Proof.Machine

/-- tdiv(a, b) of R9, which defines it for b ≠ 0: the quotient truncated toward zero. At b = 0 a free value, the model's
choice (DESIGN CHOICE, safe, log 18). -/
def tdiv (a b : Int) : Int := if b = 0 then Config.tdivByZero a else Int.tdiv a b

/-- clamp(x, lo, hi) of R9, which defines it for lo ≤ hi; elsewhere a free value (log 13). -/
def clamp (x lo hi : Int) : Int :=
  if lo ≤ hi then (if x < lo then lo else if hi < x then hi else x)
  else (Config.illFormedClamp x lo hi).toInt

/-- sat_32(v) of R9. -/
def sat32 (v : Int) : Int := clamp v (-2 ^ 31) (2 ^ 31 - 1)

/-- e = sat_32(0 − tgt) (R163, D12). -/
def updErr (tgt : Word) : Int := sat32 (0 - tgt.toInt)

/-- de = e − PREV_ERR (R163). -/
def updDelta (p : PidUnit) (tgt : Word) : Int := updErr tgt - p.prevErr.toInt

/-- dt = (now − PREV_TIME) mod 2^TW (R163, D14). -/
def updDt (p : PidUnit) (now : Word) : Word := now - p.prevTime

/-- P = tdiv(KP · e, 2^FB) (R163). -/
def updP (p : PidUnit) (tgt : Word) : Int := tdiv (p.kp.toInt * updErr tgt) Config.fxOne

/-- Inew = clamp(I_ACC + tdiv(KI · e, 2^FB), −MAXI, MAXI) (R163). -/
def updI (p : PidUnit) (tgt : Word) : Int :=
  clamp (p.iAcc.toInt + tdiv (p.ki.toInt * updErr tgt) Config.fxOne) (-p.maxi.toInt) p.maxi.toInt

/-- D = 0 if dt = 0, else tdiv(KD · de, dt · 2^FB) (R163, R241, D15). -/
def updD (p : PidUnit) (tgt now : Word) : Int :=
  if updDt p now = 0 then 0
  else tdiv (p.kd.toInt * updDelta p tgt) ((updDt p now).toNat * Config.fxOne)

/-- sum = P + Inew + D (R163). -/
def updSum (p : PidUnit) (tgt now : Word) : Int := updP p tgt + updI p tgt + updD p tgt now

/-- raw = steering_direction · sum (R163). -/
def updRaw (p : PidUnit) (tgt now : Word) : Int :=
  if p.dirNeg then -updSum p tgt now else updSum p tgt now

/-- srv = clamp(raw, −LIM, LIM) (R163). -/
def updServo (p : PidUnit) (tgt now : Word) : Int :=
  clamp (updRaw p tgt now) (-Config.servoLimit) Config.servoLimit

end Sys2Proof.Machine
end

