-- ==== Sys2Proof/Machine/Flags.lean ====
section
/-! DEFINITION. The status outputs (10_state R46) and the saturating counters (R27): how each is computed, and the
codes of the coded ones. -/

namespace Sys2Proof.Machine

/-- The 2-bit code of RX_STATE (R22). -/
def rxStateCode : RxState → BitVec 2
  | .seek => 0
  | .body => 1
  | .endMark => 2

/-- The 2-bit code of RX_EVENT (R28). -/
def rxEventCode : RxEvent → BitVec 2
  | .none => 0
  | .accept => 1
  | .framingErr => 2
  | .checksumErr => 3

/-- The 2-bit code of CMD_STATUS (R43). -/
def cmdStatusCode : CmdStatus → BitVec 2
  | .ok => 0
  | .outOfRange => 1
  | .illegalOp => 2

/-- CNT <- min(CNT + 1, 2^CW − 1) (R27). -/
def countUp (c : Word) : Word := BitVec.ofNat 32 (min (c.toNat + 1) Config.counterMax)

/-- DT_ZERO after an UPDATE at `now` (R42, R163). -/
def dtZeroFlag (p : PidUnit) (now : Word) : Bool := decide (updDt p now = 0)

/-- CMD_STATUS after WR_MAXI (R167): a negative bound is out of range. -/
def maxiStatus (v : Word) : CmdStatus := if v.toInt < 0 then .outOfRange else .ok

/-- CMD_STATUS after WR_DIR (R168): only 0 and 1 are in range. -/
def dirStatus (v : Word) : CmdStatus := if v = 0 ∨ v = 1 then .ok else .outOfRange

end Sys2Proof.Machine
end

