-- ==== Sys2Proof/Machine/Ops.lean ====
section
/-! DEFINITION. The named operations over the registers that the meanings and the step share. The block takes no
exception and returns from none (60_exceptions R200, R206, R207), so there is no entry or return operation: an error is
one of the register updates below (R201). -/

namespace Sys2Proof.Machine

/-- What selects the row of a received byte (R131). -/
def RxUnit.view (r : RxUnit) : RxView :=
  { state := r.rxState, idx := r.rxIdx, acc := r.rxAcc, chk := r.rxBuf[6] }

/-- RX_EVENT <- e (R28). -/
def RxUnit.setEvent (r : RxUnit) (e : RxEvent) : RxUnit := { r with rxEvent := e }

/-- The writes of R132: take a start marker. -/
def RxUnit.startFrame (r : RxUnit) : RxUnit :=
  { r with rxBuf := r.rxBuf.set 0 Config.startMarker, rxAcc := 0, rxIdx := 1, rxState := .body, rxEvent := .none }

/-- The writes of R135: store a body byte at RX_IDX and add it to the accumulator. -/
def RxUnit.pushBody (r : RxUnit) (b : Byte) : RxUnit :=
  { r with rxBuf := r.rxBuf.set r.rxIdx.val b r.rxIdx.isLt, rxAcc := r.rxAcc + b, rxIdx := r.rxIdx + 1,
           rxEvent := .none }

/-- The writes of R136: store the received checksum and expect the end marker. -/
def RxUnit.storeChk (r : RxUnit) (b : Byte) : RxUnit :=
  { r with rxBuf := r.rxBuf.set 6 b, rxIdx := 7, rxState := .endMark, rxEvent := .none }

/-- The return to SEEK that every END outcome makes (R137, R138, R139), reporting `e`. -/
def RxUnit.toSeek (r : RxUnit) (e : RxEvent) : RxUnit :=
  { r with rxEvent := e, rxState := .seek, rxIdx := 0 }

/-- RX_OPCODE, RX_INT1, RX_INT2 and RX_FBITS written together (R26, R137). -/
def RxUnit.loadSlots (r : RxUnit) (p : Params) : RxUnit :=
  { r with rxOpcode := p.opcode, rxInt1 := p.int1, rxInt2 := p.int2, rxFbits := p.fbits }

/-- GOOD_CNT counts one more (R27). -/
def RxUnit.countGood (r : RxUnit) : RxUnit := { r with goodCnt := countUp r.goodCnt }

/-- FRM_CNT counts one more (R27). -/
def RxUnit.countFrm (r : RxUnit) : RxUnit := { r with frmCnt := countUp r.frmCnt }

/-- CHK_CNT counts one more (R27). -/
def RxUnit.countChk (r : RxUnit) : RxUnit := { r with chkCnt := countUp r.chkCnt }

/-- TX_FRAME <- f, TX_VALID <- 1 (R111). -/
def TxUnit.latch (t : TxUnit) (f : Vector Byte 10) : TxUnit := { t with txFrame := f, txValid := true }

/-- TX_VALID <- 0, TX_FRAME unchanged: a step without a request (R111). -/
def TxUnit.idle (t : TxUnit) : TxUnit := { t with txValid := false }

/-- CMD_STATUS <- c (R43). -/
def PidUnit.setStatus (p : PidUnit) (c : CmdStatus) : PidUnit := { p with cmdStatus := c }

/-- The writes of R162: zero the dynamic state, capture the time baseline. -/
def PidUnit.rebase (p : PidUnit) (now : Word) : PidUnit :=
  { p with iAcc := 0, prevErr := 0, prevTime := now, servoOut := 0, dtZero := false, tbValid := true }

/-- The writes of R163, every right-hand side reading the unit as it was before the step (R10). -/
def PidUnit.update (p : PidUnit) (tgt now : Word) : PidUnit :=
  { p with iAcc := narrow32 (updI p tgt), prevErr := narrow32 (updErr tgt), prevTime := now,
           servoOut := narrow32 (updServo p tgt now), dtZero := dtZeroFlag p now }

/-- KP <- v (R164). -/
def PidUnit.setKp (p : PidUnit) (v : Word) : PidUnit := { p with kp := v }

/-- KI <- v (R165). -/
def PidUnit.setKi (p : PidUnit) (v : Word) : PidUnit := { p with ki := v }

/-- KD <- v (R166). -/
def PidUnit.setKd (p : PidUnit) (v : Word) : PidUnit := { p with kd := v }

/-- MAXI <- v where `v` is in range, otherwise nothing (R167). -/
def PidUnit.setMaxi (p : PidUnit) (v : Word) : PidUnit :=
  { p with maxi := if maxiStatus v = .ok then v else p.maxi }

/-- DIR_NEG <- v[0] where `v` is in range, otherwise nothing (R168). -/
def PidUnit.setDir (p : PidUnit) (v : Word) : PidUnit :=
  { p with dirNeg := if dirStatus v = .ok then v.getLsbD 0 else p.dirNeg }

/-- SGAIN <- v (R169). -/
def PidUnit.setSgain (p : PidUnit) (v : Word) : PidUnit := { p with sgain := v }

/-- The state with its receive side replaced. -/
def State.withRx (s : State) (r : RxUnit) : State := { s with rx := r }

/-- The state with its transmit side replaced. -/
def State.withTx (s : State) (t : TxUnit) : State := { s with tx := t }

/-- The state with its PID unit replaced. -/
def State.withPid (s : State) (p : PidUnit) : State := { s with pid := p }

/-- The block reset (R230): every register to its value of R50. The inputs of the later steps are no register. -/
def State.blockReset (s : State) : State := { State.reset with inputs := s.inputs }

/-- The effect of a receive row: its writes where the row's condition holds (R131 to R139), a refusal by name where it
does not (log 6). -/
def whenSelected (i : Instr) (s : State) (r : RxUnit) : Result :=
  if i.wellFormed && s.rx.view.selects i then .next (s.withRx r) else .refused .rowNotSelected

/-- The effect of a PID command: always a next state (R200), the link unit untouched (R45). -/
def pidNext (s : State) (p : PidUnit) : Result := .next (s.withPid p)

/-- One outcome after another: the second operation runs on the state the first answers. -/
def andThen (o : Result) (f : State → Result) : Result :=
  match o with
  | .next s => f s
  | .fault r => .fault r
  | .refused r => .refused r

end Sys2Proof.Machine
end

