-- ==== Sys2Proof/Machine/Pid.lean ====
section
/-! DEFINITION. The meanings of the PID commands (42_pid). Each one writes CMD_STATUS (R160). -/

namespace Sys2Proof.Machine

/-- PID.NOP (R161). -/
def execPidNop (s : State) : Result := pidNext s (s.pid.setStatus .ok)

/-- PID.RESET (R162): the gains, MAXI, DIR_NEG and SGAIN are not changed. -/
def execPidReset (now : Word) (s : State) : Result :=
  pidNext s ((s.pid.rebase now).setStatus .ok)

/-- PID.UPDATE (R163): defined before any RESET too (R235), and at dt = 0 (R241). -/
def execPidUpdate (tgt now : Word) (s : State) : Result :=
  pidNext s ((s.pid.update tgt now).setStatus .ok)

/-- PID.WR_KP (R164). -/
def execPidWrKp (v : Word) (s : State) : Result := pidNext s ((s.pid.setKp v).setStatus .ok)

/-- PID.WR_KI (R165): I_ACC is not rescaled. -/
def execPidWrKi (v : Word) (s : State) : Result := pidNext s ((s.pid.setKi v).setStatus .ok)

/-- PID.WR_KD (R166). -/
def execPidWrKd (v : Word) (s : State) : Result := pidNext s ((s.pid.setKd v).setStatus .ok)

/-- PID.WR_MAXI (R167): a negative value is a no-op with a status; I_ACC is not re-clamped (R246). -/
def execPidWrMaxi (v : Word) (s : State) : Result :=
  pidNext s ((s.pid.setMaxi v).setStatus (maxiStatus v))

/-- PID.WR_DIR (R168): a value other than 0 and 1 is a no-op with a status. -/
def execPidWrDir (v : Word) (s : State) : Result :=
  pidNext s ((s.pid.setDir v).setStatus (dirStatus v))

/-- PID.WR_SGAIN (R169). -/
def execPidWrSgain (v : Word) (s : State) : Result := pidNext s ((s.pid.setSgain v).setStatus .ok)

/-- PID.RESERVED_9 (R170). -/
def execPidReserved9 (s : State) : Result := pidNext s (s.pid.setStatus .illegalOp)

/-- PID.RESERVED_AB (R170). -/
def execPidReservedAB (_low : BitVec 1) (s : State) : Result := pidNext s (s.pid.setStatus .illegalOp)

/-- PID.RESERVED_CF (R170). -/
def execPidReservedCF (_low : BitVec 2) (s : State) : Result := pidNext s (s.pid.setStatus .illegalOp)

end Sys2Proof.Machine
end

