-- ==== Sys2Proof/Machine/Receive.lean ====
section
/-! DEFINITION. The meanings of the receive rows, the transitions of the Link State Machine (41_link_fsm). -/

namespace Sys2Proof.Machine

/-- RX.SEEK_START (R132). -/
def execRxSeekStart (s : State) : Result :=
  whenSelected .rxSeekStart s s.rx.startFrame

/-- RX.SEEK_DISCARD (R133): nothing but the event. -/
def execRxSeekDiscard (b : Byte) (s : State) : Result :=
  whenSelected (.rxSeekDiscard b) s (s.rx.setEvent .none)

/-- RX.BODY_SUM (R135). -/
def execRxBodySum (b : Byte) (s : State) : Result :=
  whenSelected (.rxBodySum b) s (s.rx.pushBody b)

/-- RX.BODY_CHK (R136): the accumulator is not changed. -/
def execRxBodyChk (b : Byte) (s : State) : Result :=
  whenSelected (.rxBodyChk b) s (s.rx.storeChk b)

/-- RX.END_ACCEPT (R137). -/
def execRxEndAccept (s : State) : Result :=
  whenSelected .rxEndAccept s (((s.rx.loadSlots (decodeParams s.rx.rxBuf)).countGood).toSeek .accept)

/-- RX.END_CHKERR (R138). -/
def execRxEndChkerr (s : State) : Result :=
  whenSelected .rxEndChkerr s (s.rx.countChk.toSeek .checksumErr)

/-- RX.END_FRAMERR (R139): the byte is discarded, 0xAA too. -/
def execRxEndFramerr (b : Byte) (s : State) : Result :=
  whenSelected (.rxEndFramerr b) s (s.rx.countFrm.toSeek .framingErr)

end Sys2Proof.Machine
end

