-- ==== Sys2Proof/Machine/Transmit.lean ====
section
/-! DEFINITION. The meaning of the transmit row (40_wire_codec R111). -/

namespace Sys2Proof.Machine

/-- TX.ENCODE (R111): every s16 triple encodes. -/
def execTxEncode (steer err tgt : Half) (s : State) : Result :=
  .next (s.withTx (s.tx.latch (encodeTelemetry steer err tgt)))

end Sys2Proof.Machine
end

