-- ==== Sys2Proof/Machine/Dispatch.lean ====
section
/-! DEFINITION. One arm per row of spec/opcode_table.json. -/

namespace Sys2Proof.Machine

def exec (i : Instr) (s : State) : Host.Outcome State Fault Refusal :=
  match i with
  -- the receive port (41_link_fsm)
  | .rxSeekStart => Sys2Proof.Machine.execRxSeekStart s
  | .rxSeekDiscard b => Sys2Proof.Machine.execRxSeekDiscard b s
  | .rxBodySum b => Sys2Proof.Machine.execRxBodySum b s
  | .rxBodyChk b => Sys2Proof.Machine.execRxBodyChk b s
  | .rxEndAccept => Sys2Proof.Machine.execRxEndAccept s
  | .rxEndChkerr => Sys2Proof.Machine.execRxEndChkerr s
  | .rxEndFramerr b => Sys2Proof.Machine.execRxEndFramerr b s
  -- the transmit port (40_wire_codec)
  | .txEncode steer err tgt => Sys2Proof.Machine.execTxEncode steer err tgt s
  -- the command port (42_pid)
  | .pidNop => Sys2Proof.Machine.execPidNop s
  | .pidReset now => Sys2Proof.Machine.execPidReset now s
  | .pidUpdate tgt now => Sys2Proof.Machine.execPidUpdate tgt now s
  | .pidWrKp v => Sys2Proof.Machine.execPidWrKp v s
  | .pidWrKi v => Sys2Proof.Machine.execPidWrKi v s
  | .pidWrKd v => Sys2Proof.Machine.execPidWrKd v s
  | .pidWrMaxi v => Sys2Proof.Machine.execPidWrMaxi v s
  | .pidWrDir v => Sys2Proof.Machine.execPidWrDir v s
  | .pidWrSgain v => Sys2Proof.Machine.execPidWrSgain v s
  | .pidReserved9 => Sys2Proof.Machine.execPidReserved9 s
  | .pidReservedAB low => Sys2Proof.Machine.execPidReservedAB low s
  | .pidReservedCF low => Sys2Proof.Machine.execPidReservedCF low s

end Sys2Proof.Machine
end

