-- ==== Sys2Proof/Machine/Ports.lean ====
section
/-! DEFINITION. One application of the port inputs (00_scope R12): fetching the next step's inputs, decoding each port's
operation and running it; and placing a word of the opcode table where the next step reads it. -/

namespace Sys2Proof.Machine

/-- The inputs of the next step: the first listed, every port idle where none is listed (log 1). -/
def State.nextInput (s : State) : StepInput := s.inputs.headD StepInput.idle

/-- The state with the next step's inputs taken off the list. -/
def State.dropInput (s : State) : State := { s with inputs := s.inputs.tail }

/-- Decode the operation on a port and run it. The wires of a port decode to an instruction except in a parser state
that R131 gives no transition (log 7). -/
def runOp (o : PortOp) (s : State) : Result :=
  match decodeOp s.rx.view o with
  | .ok i => exec i s
  | .error _ => .fault .parserUnreachable

/-- The receive port in one step (R131): without a byte, RX_EVENT <- NONE and nothing else changes. -/
def stepRx (x : Option Byte) (s : State) : Result :=
  match x with
  | some b => runOp (.rx b) s
  | none => .next (s.withRx (s.rx.setEvent .none))

/-- The transmit port in one step (R111): without a request, TX_VALID <- 0 and TX_FRAME is unchanged. -/
def stepTx (x : Option TxRequest) (s : State) : Result :=
  match x with
  | some r => runOp (.tx r) s
  | none => .next (s.withTx s.tx.idle)

/-- The command port in one step (R160): without a command, no PID register changes. -/
def stepCmd (x : Option PidCommand) (s : State) : Result :=
  match x with
  | some c => runOp (.cmd c) s
  | none => .next s

/-- One step's inputs applied (R12): with rst = 1 the block reset, every port ignored (R230); otherwise the three ports.
They touch disjoint registers, so one after another is the same as all at once (R10, R71; log 8). -/
def applyInput (x : StepInput) (s : State) : Result :=
  if x.rst then .next s.blockReset
  else andThen (andThen (stepRx x.rx s) (stepTx x.tx)) (stepCmd x.cmd)

/-- The step input that offers one operation and leaves the other ports idle. -/
def inputOfOp : PortOp → StepInput
  | .rx b => { StepInput.idle with rx := some b }
  | .tx r => { StepInput.idle with tx := some r }
  | .cmd c => { StepInput.idle with cmd := some c }

/-- The parser put where the row of a received word applies (log 5): the state and index under which the word is read,
and in END a received checksum that matches the accumulator. -/
def RxUnit.prepareFor (r : RxUnit) (w : Nat) : RxUnit :=
  let v := viewOfTableWord w
  { r with rxState := v.state, rxIdx := v.idx,
           rxBuf := if v.state = .endMark then r.rxBuf.set 6 r.rxAcc else r.rxBuf }

/-- A word of the opcode table placed as the next step's only operation (log 2, log 5); a word that is too long for its
port offers nothing. -/
def State.offerTableWord (s : State) (nbits w : Nat) : State :=
  let w' := w % 2 ^ nbits
  match tableWordBytes nbits w with
  | some bs =>
    match portOpOfBytes (portOfTableWord w') bs with
    | .ok o =>
      { s with rx := if o.port = .receive then s.rx.prepareFor w' else s.rx,
               inputs := inputOfOp o :: s.inputs.tail }
    | .error _ => { s with inputs := StepInput.idle :: s.inputs.tail }
  | none => { s with inputs := StepInput.idle :: s.inputs.tail }

end Sys2Proof.Machine
end

