-- ==== Sys2Proof/Machine/Step.lean ====
section
/-! DEFINITION. One step of the block (00_scope R12), and the word of an instruction placed where the next step reads
it. -/

namespace Sys2Proof.Machine

/-- One step: the next inputs, applied to the state without them. -/
def step (s : State) : Host.Outcome State Fault Refusal := applyInput s.nextInput s.dropInput

/-- `s` with the instruction of a table word as what the next step runs (log 2). -/
def State.withFetchWord (s : State) (nbits w : Nat) : State := s.offerTableWord nbits w

end Sys2Proof.Machine
end

