-- ==== Sys2Proof/Machine/ReadPorts.lean ====
section
/-! DEFINITION. The read ports (10_state R47): what an observer of the block sees of a state. RX_STATE, RX_IDX, RX_ACC and
RX_BUF are on none of them (R49). -/

namespace Sys2Proof.Machine

/-- The output wires of the block, in the order of R47's table. -/
structure ReadPorts where
  /-- RX_OPCODE. -/
  rxOpcode : Byte
  /-- RX_INT1. -/
  rxInt1 : Half
  /-- RX_INT2. -/
  rxInt2 : Half
  /-- RX_FBITS. -/
  rxFbits : Word
  /-- GOOD_CNT. -/
  goodCnt : Word
  /-- FRM_CNT. -/
  frmCnt : Word
  /-- CHK_CNT. -/
  chkCnt : Word
  /-- RX_EVENT, 2 bits (R28). -/
  rxEvent : BitVec 2
  /-- TX_FRAME. -/
  txFrame : Vector Byte 10
  /-- TX_VALID. -/
  txValid : BitVec 1
  /-- KP. -/
  kp : Word
  /-- KI. -/
  ki : Word
  /-- KD. -/
  kd : Word
  /-- MAXI. -/
  maxi : Word
  /-- DIR_NEG. -/
  dirNeg : BitVec 1
  /-- SGAIN. -/
  sgain : Word
  /-- I_ACC. -/
  iAcc : Word
  /-- PREV_ERR. -/
  prevErr : Word
  /-- PREV_TIME. -/
  prevTime : Word
  /-- SERVO_OUT. -/
  servoOut : Word
  /-- TB_VALID. -/
  tbValid : BitVec 1
  /-- DT_ZERO. -/
  dtZero : BitVec 1
  /-- CMD_STATUS, 2 bits (R43). -/
  cmdStatus : BitVec 2
deriving DecidableEq, Repr

/-- The read ports show the state at the start of the step (R47). Reading has no side effect: this is a function of the
state and no operation of the block. -/
def State.readPorts (s : State) : ReadPorts :=
  { rxOpcode := s.rx.rxOpcode, rxInt1 := s.rx.rxInt1, rxInt2 := s.rx.rxInt2, rxFbits := s.rx.rxFbits,
    goodCnt := s.rx.goodCnt, frmCnt := s.rx.frmCnt, chkCnt := s.rx.chkCnt, rxEvent := rxEventCode s.rx.rxEvent,
    txFrame := s.tx.txFrame, txValid := BitVec.ofBool s.tx.txValid,
    kp := s.pid.kp, ki := s.pid.ki, kd := s.pid.kd, maxi := s.pid.maxi, dirNeg := BitVec.ofBool s.pid.dirNeg,
    sgain := s.pid.sgain, iAcc := s.pid.iAcc, prevErr := s.pid.prevErr, prevTime := s.pid.prevTime,
    servoOut := s.pid.servoOut, tbValid := BitVec.ofBool s.pid.tbValid, dtZero := BitVec.ofBool s.pid.dtZero,
    cmdStatus := cmdStatusCode s.pid.cmdStatus }

end Sys2Proof.Machine
end

