-- ==== Sys2Proof/Machine/StepLines.lean ====
section
/-! DEFINITION. The step lines in which the spec writes test programs (30_encoding R92), as lists of step inputs. -/

namespace Sys2Proof.Machine

/-- `RX bb bb ...`: one RX_BYTE step per byte. -/
def rxLine (bs : List Byte) : List StepInput := bs.map fun b => { StepInput.idle with rx := some b }

/-- `TX s, e, t`: one TX_ENCODE step. -/
def txLine (s e t : Half) : List StepInput :=
  [{ StepInput.idle with tx := some { steer := s, err := e, tgt := t } }]

/-- `CMD <op> data @now`: one PID command step. -/
def cmdLine (op : BitVec 4) (data now : Word) : List StepInput :=
  [{ StepInput.idle with cmd := some { op := op, data := data, now := now } }]

/-- `RESETB`: one block-reset step. -/
def resetLine : List StepInput := [{ StepInput.idle with rst := true }]

/-- `a || b`: the operations of two lines of equal length in the same steps; where both use one port, the first's. -/
def bothLines (a b : List StepInput) : List StepInput :=
  List.zipWith (fun x y =>
    { rst := x.rst || y.rst, rx := x.rx <|> y.rx, tx := x.tx <|> y.tx, cmd := x.cmd <|> y.cmd }) a b

/-- `FRAME op, p1, p2`: the eight bytes of encode_command. -/
def frameLine (op : Byte) (p1 p2 : Half) : List StepInput := rxLine (encodeCommand op p1 p2).toList

/-- `FRAMEF op, bits32`: the frame whose parameter bytes are the four bytes of `bits`. -/
def frameFLine (op : Byte) (bits : Word) : List StepInput := rxLine (encodeCommandF op bits).toList

/-- `SETPID kp, ki, kd, maxi, dirneg`: the five settings, in that order. -/
def setPidLine (kp ki kd maxi dirneg : Word) : List StepInput :=
  cmdLine 0x3 kp 0 ++ cmdLine 0x4 ki 0 ++ cmdLine 0x5 kd 0 ++ cmdLine 0x6 maxi 0 ++ cmdLine 0x7 dirneg 0

end Sys2Proof.Machine
end

