-- ==== Sys2Proof/Safety.lean ====
section
/-! DEFINITION. What holds of every state the block can be in, and the words in which claims speak of a step: the
invariants of 10_state (R23, R24, R25, R34, R40), what the slots and TX_FRAME hold, and agreement of two states on one
unit. -/

namespace Sys2Proof.Machine

/-- R23: RX_IDX is 0 in SEEK, 1 to 6 in BODY and 7 in END. -/
def RxUnit.indexed (r : RxUnit) : Prop :=
  match r.rxState with
  | .seek => r.rxIdx.val = 0
  | .body => 1 ≤ r.rxIdx.val ∧ r.rxIdx.val ≤ 6
  | .endMark => r.rxIdx.val = 7

/-- R24: inside a frame RX_ACC is the sum of the body bytes collected so far, but never offset 6. -/
def RxUnit.summed (r : RxUnit) : Prop :=
  match r.rxState with
  | .seek => True
  | .body => r.rxAcc = cks r.rxBuf.toList 1 (r.rxIdx.val - 1)
  | .endMark => r.rxAcc = cks r.rxBuf.toList 1 5

/-- R25: inside a frame RX_BUF[0] holds the start marker; RX_BUF[7] holds its reset value forever. -/
def RxUnit.buffered (r : RxUnit) : Prop :=
  (r.rxState ≠ .seek → r.rxBuf[0] = Config.startMarker) ∧ r.rxBuf[7] = 0

/-- R62: the float view of the slots is { int2, int1 }. -/
def RxUnit.slotsAgree (r : RxUnit) : Prop := r.rxFbits = floatView r.rxInt1 r.rxInt2

/-- The receive side of a reachable state. -/
def RxUnit.Inv (r : RxUnit) : Prop := r.indexed ∧ r.summed ∧ r.buffered ∧ r.slotsAgree

/-- TX_FRAME is the reset value or a telemetry frame with its markers and checksum right, and only the latter while
TX_VALID is 1 (R30, R111). -/
def TxUnit.Inv (t : TxUnit) : Prop :=
  (t.txFrame = TxUnit.reset.txFrame ∨ (decodeTelemetry t.txFrame).ok = true) ∧
    (t.txValid = true → (decodeTelemetry t.txFrame).ok = true)

/-- R34: MAXI is never negative; R40: SERVO_OUT is within ±50. -/
def PidUnit.Inv (p : PidUnit) : Prop :=
  0 ≤ p.maxi.toInt ∧ -Config.servoLimit ≤ p.servoOut.toInt ∧ p.servoOut.toInt ≤ Config.servoLimit

/-- What every state of a run from reset satisfies. -/
def State.Inv (s : State) : Prop := s.rx.Inv ∧ s.tx.Inv ∧ s.pid.Inv

/-- The gains and settings of the PID unit, which no command but their own write changes (R47). -/
def PidUnit.sameSettings (p q : PidUnit) : Prop :=
  q.kp = p.kp ∧ q.ki = p.ki ∧ q.kd = p.kd ∧ q.maxi = p.maxi ∧ q.dirNeg = p.dirNeg ∧ q.sgain = p.sgain

/-- The dynamic state of the PID unit but CMD_STATUS, which only RESET and UPDATE change (R47). -/
def PidUnit.sameDynamics (p q : PidUnit) : Prop :=
  q.iAcc = p.iAcc ∧ q.prevErr = p.prevErr ∧ q.prevTime = p.prevTime ∧ q.servoOut = p.servoOut ∧
    q.tbValid = p.tbValid ∧ q.dtZero = p.dtZero

/-- The parser's internal registers (R49). -/
def RxUnit.sameParser (r q : RxUnit) : Prop :=
  q.rxState = r.rxState ∧ q.rxIdx = r.rxIdx ∧ q.rxAcc = r.rxAcc ∧ q.rxBuf = r.rxBuf

/-- The decoded parameter slots (R26). -/
def RxUnit.sameSlots (r q : RxUnit) : Prop :=
  q.rxOpcode = r.rxOpcode ∧ q.rxInt1 = r.rxInt1 ∧ q.rxInt2 = r.rxInt2 ∧ q.rxFbits = r.rxFbits

/-- The telemetry counters (R27). -/
def RxUnit.sameCounters (r q : RxUnit) : Prop :=
  q.goodCnt = r.goodCnt ∧ q.frmCnt = r.frmCnt ∧ q.chkCnt = r.chkCnt

/-- Everything outside the receive side is unchanged. -/
def State.outsideRx (s t : State) : Prop := t.tx = s.tx ∧ t.pid = s.pid ∧ t.inputs = s.inputs

/-- Everything outside the transmit side is unchanged. -/
def State.outsideTx (s t : State) : Prop := t.rx = s.rx ∧ t.pid = s.pid ∧ t.inputs = s.inputs

/-- Everything outside the PID unit is unchanged. -/
def State.outsidePid (s t : State) : Prop := t.rx = s.rx ∧ t.tx = s.tx ∧ t.inputs = s.inputs

/-- What a step writes on the ports other than the one its operation is on: RX_EVENT <- NONE (R131), TX_VALID <- 0
(R111); the command port writes nothing (R160). -/
def State.quiet (s : State) (p : Port) : State :=
  { s with rx := if p = .receive then s.rx else s.rx.setEvent .none,
           tx := if p = .transmit then s.tx else s.tx.idle }

/-- The next step carries the command with op code `n`. -/
def State.commands (s : State) (n : Nat) : Prop := ∃ c, s.nextInput.cmd = some c ∧ c.op.toNat = n

/-- MAXI_at_last_update of R37, followed along: the bound in force when I_ACC was last written, after the step that
takes `x` in a state with PID unit `p` where it was `m` before. -/
def boundAfter (x : StepInput) (p : PidUnit) (m : Int) : Int :=
  if x.rst then PidUnit.reset.maxi.toInt
  else match x.cmd with
    | some c => if c.op.toNat = 1 ∨ c.op.toNat = 2 then p.maxi.toInt else m
    | none => m

/-- Two PID units with the same settings and time, whose errors, integrals and outputs are opposite (R172 d). -/
def PidUnit.mirrors (p q : PidUnit) : Prop :=
  p.sameSettings q ∧ q.prevTime = p.prevTime ∧ q.iAcc.toInt = -p.iAcc.toInt ∧
    q.prevErr.toInt = -p.prevErr.toInt ∧ q.servoOut.toInt = -p.servoOut.toInt ∧ q.dtZero = p.dtZero

/-- Two states that agree on every register but the status outputs (R46) and SGAIN (R36), and on the inputs to come. -/
def State.agreeButOutputs (s t : State) : Prop :=
  s.rx.sameParser t.rx ∧ s.rx.sameSlots t.rx ∧ s.rx.sameCounters t.rx ∧ t.tx.txFrame = s.tx.txFrame ∧
    t.pid.kp = s.pid.kp ∧ t.pid.ki = s.pid.ki ∧ t.pid.kd = s.pid.kd ∧ t.pid.maxi = s.pid.maxi ∧
    t.pid.dirNeg = s.pid.dirNeg ∧ t.pid.iAcc = s.pid.iAcc ∧ t.pid.prevErr = s.pid.prevErr ∧
    t.pid.prevTime = s.pid.prevTime ∧ t.pid.servoOut = s.pid.servoOut ∧ t.inputs = s.inputs

/-- The inputs of an UPDATE of each target and time listed (R84, R163). -/
def updateLines (us : List (Word × Word)) : List StepInput :=
  us.map fun u => { StepInput.idle with cmd := some { op := 0x2, data := u.1, now := u.2 } }

/-- `n` steps of the block from `s`. -/
def runSteps (n : Nat) (s : State) : Result := Host.Core.run Sys2Proof.core n s

end Sys2Proof.Machine
end

