-- ==== Sys2Proof/Certificates/Slice0/Obligations.lean ====
section
/-! DEFINITION. The statements for the provers. Each docstring names the rules of spec/ it comes from, and the log entry
where a clause is the model's own choice. -/

open Sys2Proof Sys2Proof.Machine

/-! ### Encoding -/

/-- Decode and encode agree: for every well-formed instruction, in every parser state that selects its row, decoding the
bytes of its word gives it back. The op codes and the rows are R84's and R131's; the byte layout is the model's (log 4). -/
def Obligations.DecodeOfEncodeIsTheInstruction : Prop :=
  ∀ (v : RxView) (i : Instr), i.wellFormed = true → v.selects i = true →
    decodeBytes i.port v (encode i) = .ok i

/-- The other direction: what the decoder answers is a well-formed instruction of that port, selected by that parser
state, and every bit of the bytes given is accounted for: on the receive and the transmit port they are its word; on the
command port they are the word of a command `c` of which it is `decodeCmd c`. Conversely every command word decodes,
whatever its ignored operands hold (R84; what `decodeCmd c` is, `CommandWordSelectsItsRow` says). Layout: log 4. -/
def Obligations.DecodedBytesAreTheInstructionsWord : Prop :=
  (∀ (p : Port) (v : RxView) (bs : List Byte) (i : Instr), decodeBytes p v bs = .ok i →
    i.wellFormed = true ∧ v.selects i = true ∧ i.port = p ∧ bs.length = portLength p ∧
      (p ≠ .command → encode i = bs) ∧ (encode i).head? = bs.head? ∧
      (p = .command → ∃ c, bytesOfPortOp (.cmd c) = bs ∧ i = decodeCmd c)) ∧
  ∀ (v : RxView) (c : PidCommand), decodeBytes .command v (bytesOfPortOp (.cmd c)) = .ok (decodeCmd c)

/-- R84: the command word. cmd_op selects the row; the row takes the operand R84 names, and whatever the operands it
ignores hold makes no difference. All 16 op codes. -/
def Obligations.CommandWordSelectsItsRow : Prop :=
  (∀ (v : RxView) (c : PidCommand), decodeOp v (.cmd c) = .ok (decodeCmd c)) ∧
  ∀ data now : Word,
    decodeCmd { op := 0x0, data := data, now := now } = .pidNop ∧
    decodeCmd { op := 0x1, data := data, now := now } = .pidReset now ∧
    decodeCmd { op := 0x2, data := data, now := now } = .pidUpdate data now ∧
    decodeCmd { op := 0x3, data := data, now := now } = .pidWrKp data ∧
    decodeCmd { op := 0x4, data := data, now := now } = .pidWrKi data ∧
    decodeCmd { op := 0x5, data := data, now := now } = .pidWrKd data ∧
    decodeCmd { op := 0x6, data := data, now := now } = .pidWrMaxi data ∧
    decodeCmd { op := 0x7, data := data, now := now } = .pidWrDir data ∧
    decodeCmd { op := 0x8, data := data, now := now } = .pidWrSgain data ∧
    decodeCmd { op := 0x9, data := data, now := now } = .pidReserved9 ∧
    decodeCmd { op := 0xA, data := data, now := now } = .pidReservedAB 0 ∧
    decodeCmd { op := 0xB, data := data, now := now } = .pidReservedAB 1 ∧
    decodeCmd { op := 0xC, data := data, now := now } = .pidReservedCF 0 ∧
    decodeCmd { op := 0xD, data := data, now := now } = .pidReservedCF 1 ∧
    decodeCmd { op := 0xE, data := data, now := now } = .pidReservedCF 2 ∧
    decodeCmd { op := 0xF, data := data, now := now } = .pidReservedCF 3

/-- R130: in every reachable parser state each received byte takes exactly one row. -/
def Obligations.ReceivedByteTakesExactlyOneRow : Prop :=
  ∀ (r : RxUnit) (b : Byte), r.indexed →
    ∃ i, decodeRx r.view b = .ok i ∧ i.wellFormed = true ∧ encodeOp i = .rx b ∧ r.view.selects i = true ∧
      ∀ j : Instr, j.wellFormed = true → encodeOp j = .rx b → r.view.selects j = true → j = i

/-- Words written out from R81, R84 and the encodings of the spec's programs P2 to P4 decode to what they stand for
(the layout of a command and of a request is the model's, log 4). -/
def Obligations.WrittenOutWordsDecode : Prop :=
  decodeBytes .receive ⟨.seek, 0, 0, 0⟩ [0xAA] = .ok .rxSeekStart ∧
  decodeBytes .receive ⟨.body, 3, 0x39, 0⟩ [0x12] = .ok (.rxBodySum 0x12) ∧
  decodeBytes .receive ⟨.endMark, 7, 0x49, 0x49⟩ [0xA8] = .ok .rxEndAccept ∧
  decodeBytes .receive ⟨.endMark, 7, 0x4A, 0x49⟩ [0xA8] = .ok .rxEndChkerr ∧
  decodeBytes .transmit ⟨.seek, 0, 0, 0⟩ [0x01, 0x0C, 0x00, 0xFD, 0xFF, 0x07, 0x00] = .ok (.txEncode 12 (-3) 7) ∧
  decodeBytes .command ⟨.seek, 0, 0, 0⟩ [0x02, 0x00, 0x00, 0x0A, 0x00, 20, 0, 0, 0] = .ok (.pidUpdate 0x000A0000 20) ∧
  decodeBytes .command ⟨.seek, 0, 0, 0⟩ [0x03, 0xCD, 0xCC, 0x00, 0x00, 0, 0, 0, 0] = .ok (.pidWrKp 52429)

/-- The codes of the coded registers (R22, R28, R43): the values the spec gives, and code 3 of RX_STATE and CMD_STATUS
never shown. -/
def Obligations.StatusCodesAreAsSpecified : Prop :=
  ∀ s : State,
    (rxEventCode .none = 0 ∧ rxEventCode .accept = 1 ∧ rxEventCode .framingErr = 2 ∧ rxEventCode .checksumErr = 3) ∧
    (cmdStatusCode .ok = 0 ∧ cmdStatusCode .outOfRange = 1 ∧ cmdStatusCode .illegalOp = 2) ∧
    (rxStateCode .seek = 0 ∧ rxStateCode .body = 1 ∧ rxStateCode .endMark = 2) ∧
    rxStateCode s.rx.rxState ≠ 3 ∧ s.readPorts.cmdStatus ≠ 3

/-- R47, R49: each read port shows its register, the coded ones by their codes (R28, R43) and the one-bit ones as bits;
and RX_STATE, RX_IDX, RX_ACC and RX_BUF are on none: states that differ in these alone (and in the model's own inputs)
show the same ports. -/
def Obligations.ReadPortsShowTheRegisters : Prop :=
  ∀ s : State,
    (let p := s.readPorts
     p.rxOpcode = s.rx.rxOpcode ∧ p.rxInt1 = s.rx.rxInt1 ∧ p.rxInt2 = s.rx.rxInt2 ∧ p.rxFbits = s.rx.rxFbits ∧
     p.goodCnt = s.rx.goodCnt ∧ p.frmCnt = s.rx.frmCnt ∧ p.chkCnt = s.rx.chkCnt ∧
     p.rxEvent = rxEventCode s.rx.rxEvent ∧
     p.txFrame = s.tx.txFrame ∧ p.txValid = (if s.tx.txValid then 1 else 0) ∧
     p.kp = s.pid.kp ∧ p.ki = s.pid.ki ∧ p.kd = s.pid.kd ∧ p.maxi = s.pid.maxi ∧
     p.dirNeg = (if s.pid.dirNeg then 1 else 0) ∧ p.sgain = s.pid.sgain ∧
     p.iAcc = s.pid.iAcc ∧ p.prevErr = s.pid.prevErr ∧ p.prevTime = s.pid.prevTime ∧ p.servoOut = s.pid.servoOut ∧
     p.tbValid = (if s.pid.tbValid then 1 else 0) ∧ p.dtZero = (if s.pid.dtZero then 1 else 0) ∧
     p.cmdStatus = cmdStatusCode s.pid.cmdStatus) ∧
    ∀ (st : RxState) (idx : Fin 8) (acc : Byte) (buf : Vector Byte 8) (xs : List StepInput),
      State.readPorts { s with rx := { s.rx with rxState := st, rxIdx := idx, rxAcc := acc, rxBuf := buf },
                               inputs := xs } = s.readPorts

/-! ### The step -/

/-- A step that is offered one operation runs the decoded instruction: step is exec of it on the state without those
inputs, with the pulses of the other ports written (RX_EVENT <- NONE without a byte, R131; TX_VALID <- 0 without a
request, R111). That the inputs stand in a list of State is the model's (log 1). -/
def Obligations.StepRunsTheDecodedInstruction : Prop :=
  ∀ (s : State) (o : PortOp) (rest : List StepInput) (i : Instr),
    s.inputs = inputOfOp o :: rest → decodeOp s.rx.view o = .ok i →
      step s = exec i (State.quiet { s with inputs := rest } o.port)

/-- R12: a step with an operation on each of the three ports runs all three. -/
def Obligations.StepRunsAllThreePorts : Prop :=
  ∀ (s : State) (b : Byte) (q : TxRequest) (c : PidCommand) (rest : List StepInput) (i : Instr),
    s.inputs = { rst := false, rx := some b, tx := some q, cmd := some c } :: rest →
    decodeRx s.rx.view b = .ok i →
      step s = andThen (andThen (exec i { s with inputs := rest }) (exec (.txEncode q.steer q.err q.tgt)))
        (exec (decodeCmd c))

/-- R12, R71, R205: operations of different ports commute, in every state, stops included. -/
def Obligations.OperationsOfDifferentPortsCommute : Prop :=
  ∀ (i j : Instr) (s : State), i.port ≠ j.port →
    andThen (exec i s) (exec j) = andThen (exec j s) (exec i)

/-- R230: a step with rst = 1 sets every register to its block-reset value and ignores every port of that step. -/
def Obligations.BlockResetStep : Prop :=
  ∀ (s : State) (x : StepInput) (rest : List StepInput), s.inputs = x :: rest → x.rst = true →
    step s = .next { State.reset with inputs := rest }

/-- R50, both columns: what the block reset leaves (the OPEN power-on settings are the bodyless constants of Config,
log 3), and what the PID RESET command leaves. -/
def Obligations.ResetValues : Prop :=
  (let r := State.reset
   r.rx.rxState = .seek ∧ r.rx.rxIdx = 0 ∧ r.rx.rxAcc = 0 ∧ (∀ k : Fin 8, r.rx.rxBuf[k] = 0) ∧
   r.rx.rxOpcode = 0 ∧ r.rx.rxInt1 = 0 ∧ r.rx.rxInt2 = 0 ∧ r.rx.rxFbits = 0 ∧
   r.rx.goodCnt = 0 ∧ r.rx.frmCnt = 0 ∧ r.rx.chkCnt = 0 ∧ r.rx.rxEvent = .none ∧
   (∀ k : Fin 10, r.tx.txFrame[k] = 0) ∧ r.tx.txValid = false ∧
   r.pid.kp = Config.kpInit ∧ r.pid.ki = Config.kiInit ∧ r.pid.kd = Config.kdInit ∧
   r.pid.maxi.toNat = Config.maxiInit.toNat ∧ r.pid.dirNeg = Config.dirNegInit ∧ r.pid.sgain = Config.sgainInit ∧
   r.pid.iAcc = 0 ∧ r.pid.prevErr = 0 ∧ r.pid.prevTime = 0 ∧ r.pid.servoOut = 0 ∧
   r.pid.tbValid = false ∧ r.pid.dtZero = false ∧ r.pid.cmdStatus = .ok) ∧
  ∀ (s : State) (now : Word), ∃ t, exec (.pidReset now) s = .next t ∧ s.outsidePid t ∧
    s.pid.sameSettings t.pid ∧ t.pid.iAcc = 0 ∧ t.pid.prevErr = 0 ∧ t.pid.prevTime = now ∧ t.pid.servoOut = 0 ∧
    t.pid.tbValid = true ∧ t.pid.dtZero = false ∧ t.pid.cmdStatus = .ok

/-- A port that carries nothing writes nothing but its pulse (R131, R111, R160), whatever the other ports carry. -/
def Obligations.IdlePortsWriteOnlyTheirPulse : Prop :=
  ∀ s : State, s.rx.indexed → s.nextInput.rst = false →
    ∃ t, step s = .next t ∧
      (s.nextInput.rx = none → t.rx = { s.rx with rxEvent := .none }) ∧
      (s.nextInput.tx = none → t.tx = { s.tx with txValid := false }) ∧
      (s.nextInput.cmd = none → t.pid = s.pid) ∧
      t.inputs = s.inputs.tail

/-- R145: no timeout. However many steps offer no byte (and no block reset), from any state, the parser keeps its
registers, and the slots and counters keep theirs. -/
def Obligations.NoTimeoutInTheParser : Prop :=
  ∀ (n : Nat) (s : State), (∀ x ∈ s.inputs.take n, x.rst = false ∧ x.rx = none) →
    ∃ t, runSteps n s = .next t ∧ s.rx.sameParser t.rx ∧ s.rx.sameSlots t.rx ∧ s.rx.sameCounters t.rx

/-- R249: a run is never stuck. From every state that satisfies R23, any number of steps of any inputs answers a next
state. -/
def Obligations.RunsAreNeverStuck : Prop :=
  ∀ (n : Nat) (s : State), s.rx.indexed → ∃ t, runSteps n s = .next t ∧ t.rx.indexed

/-- The model's choice (log 7): a byte offered in a (RX_STATE, RX_IDX) pair to which R131 gives no transition stops the
step by a fault of its own name; R131 says that no such pair is reachable. -/
def Obligations.UnreachableParserPairFaults : Prop :=
  ∀ (s : State) (x : StepInput) (b : Byte) (rest : List StepInput),
    s.inputs = x :: rest → x.rst = false → x.rx = some b →
    ((s.rx.rxState = .body ∧ (s.rx.rxIdx.val = 0 ∨ s.rx.rxIdx.val = 7)) ∨
      (s.rx.rxState = .endMark ∧ s.rx.rxIdx.val ≠ 7)) →
    step s = .fault .parserUnreachable

/-- The model's choice (log 6): a receive row run where its own condition does not hold is refused by name. -/
def Obligations.UnselectedReceiveRowIsRefused : Prop :=
  ∀ (i : Instr) (s : State), i.port = .receive → (i.wellFormed && s.rx.view.selects i) = false →
    exec i s = .refused .rowNotSelected

/-! ### Invariants and whole-machine rules -/

/-- Every step, from every state that satisfies the invariant, with any inputs, keeps it: R23's indices, R24's sum,
R25's buffer, R62's slots, a framed TX_FRAME (R111), MAXI ≥ 0 (R34) and SERVO_OUT within ±50 (R40). -/
def Obligations.EveryStepKeepsTheInvariant : Prop :=
  ∀ s t : State, s.Inv → step s = .next t → t.Inv

/-- The invariant holds after the block reset, whatever the OPEN power-on settings are. -/
def Obligations.InvariantHoldsAtReset : Prop := State.reset.Inv

/-- R37: I_ACC stays within the MAXI in force when it was last written, followed along any step (R34 as premise). -/
def Obligations.IntegratorStaysWithinItsBound : Prop :=
  ∀ (s t : State) (m : Int), 0 ≤ s.pid.maxi.toInt → -m ≤ s.pid.iAcc.toInt → s.pid.iAcc.toInt ≤ m →
    step s = .next t →
      -boundAfter s.nextInput s.pid m ≤ t.pid.iAcc.toInt ∧ t.pid.iAcc.toInt ≤ boundAfter s.nextInput s.pid m

/-- R47's "written by" column: a step without the block reset changes a register only through the operations that
column names. -/
def Obligations.RegistersHaveOnlyTheirWriters : Prop :=
  ∀ s t : State, step s = .next t → s.nextInput.rst = false →
    (¬ s.commands 0x3 → t.pid.kp = s.pid.kp) ∧
    (¬ s.commands 0x4 → t.pid.ki = s.pid.ki) ∧
    (¬ s.commands 0x5 → t.pid.kd = s.pid.kd) ∧
    (¬ s.commands 0x6 → t.pid.maxi = s.pid.maxi) ∧
    (¬ s.commands 0x7 → t.pid.dirNeg = s.pid.dirNeg) ∧
    (¬ s.commands 0x8 → t.pid.sgain = s.pid.sgain) ∧
    (¬ s.commands 0x1 → t.pid.tbValid = s.pid.tbValid) ∧
    (¬ s.commands 0x1 → ¬ s.commands 0x2 → s.pid.sameDynamics t.pid) ∧
    (s.nextInput.cmd = none → t.pid.cmdStatus = s.pid.cmdStatus) ∧
    (t.rx.rxEvent ≠ .accept → s.rx.sameSlots t.rx ∧ t.rx.goodCnt = s.rx.goodCnt) ∧
    (t.rx.rxEvent ≠ .framingErr → t.rx.frmCnt = s.rx.frmCnt) ∧
    (t.rx.rxEvent ≠ .checksumErr → t.rx.chkCnt = s.rx.chkCnt) ∧
    (s.nextInput.tx = none → t.tx.txFrame = s.tx.txFrame)

/-- R32, R45: neither unit reads the other. Two states that agree on one unit and are offered the same on its ports
agree on it after the step, whatever the other unit holds and is offered. -/
def Obligations.UnitsDoNotReadEachOther : Prop :=
  ∀ s s' t t' : State, step s = .next t → step s' = .next t' → s.nextInput.rst = s'.nextInput.rst →
    (s.rx = s'.rx → s.tx = s'.tx → s.nextInput.rx = s'.nextInput.rx → s.nextInput.tx = s'.nextInput.tx →
      t.rx = t'.rx ∧ t.tx = t'.tx) ∧
    (s.pid = s'.pid → s.nextInput.cmd = s'.nextInput.cmd → t.pid = t'.pid)

/-- R46, R36: no operation reads a status bit or SGAIN. Where two states differ in these alone and one of them steps,
the other steps too, and after the step they differ in these alone; and each of them that the step writes is the same in
both: RX_EVENT and TX_VALID (every step), CMD_STATUS (any command), DT_ZERO (RESET, UPDATE), TB_VALID (RESET), SGAIN
(WR_SGAIN), and everything (the block reset). -/
def Obligations.StatusBitsAndSgainAreNeverRead : Prop :=
  ∀ s s' t : State, s.agreeButOutputs s' → step s = .next t →
    ∃ t', step s' = .next t' ∧ t.agreeButOutputs t' ∧ t'.rx.rxEvent = t.rx.rxEvent ∧ t'.tx.txValid = t.tx.txValid ∧
      (s.nextInput.cmd ≠ none → t'.pid.cmdStatus = t.pid.cmdStatus) ∧
      (s.commands 0x1 ∨ s.commands 0x2 → t'.pid.dtZero = t.pid.dtZero) ∧
      (s.commands 0x1 → t'.pid.tbValid = t.pid.tbValid) ∧
      (s.commands 0x8 → t'.pid.sgain = t.pid.sgain) ∧
      (s.nextInput.rst = true → t' = t)

/-- R27: the counters are monotonic and saturate. In a step without the block reset at most one of them moves, and then
by one, never past 2^32 − 1. -/
def Obligations.CountersAreMonotonic : Prop :=
  ∀ s t : State, step s = .next t → s.nextInput.rst = false →
    (t.rx.goodCnt.toNat = s.rx.goodCnt.toNat ∨ t.rx.goodCnt.toNat = s.rx.goodCnt.toNat + 1) ∧
    (t.rx.frmCnt.toNat = s.rx.frmCnt.toNat ∨ t.rx.frmCnt.toNat = s.rx.frmCnt.toNat + 1) ∧
    (t.rx.chkCnt.toNat = s.rx.chkCnt.toNat ∨ t.rx.chkCnt.toNat = s.rx.chkCnt.toNat + 1) ∧
    ((t.rx.goodCnt = s.rx.goodCnt ∧ t.rx.frmCnt = s.rx.frmCnt) ∨
      (t.rx.goodCnt = s.rx.goodCnt ∧ t.rx.chkCnt = s.rx.chkCnt) ∨
      (t.rx.frmCnt = s.rx.frmCnt ∧ t.rx.chkCnt = s.rx.chkCnt))

/-! ### The receive rows -/

/-- R132: a start marker in SEEK, whatever RX_IDX. -/
def Obligations.SeekStartTakesTheMarker : Prop :=
  ∀ s : State, s.rx.rxState = .seek →
    ∃ t, exec .rxSeekStart s = .next t ∧ t.rx.rxBuf[0] = 0xAA ∧
      (∀ j : Fin 8, j.val ≠ 0 → t.rx.rxBuf[j] = s.rx.rxBuf[j]) ∧
      t.rx.rxAcc = 0 ∧ t.rx.rxIdx = 1 ∧ t.rx.rxState = .body ∧ t.rx.rxEvent = .none ∧
      s.rx.sameSlots t.rx ∧ s.rx.sameCounters t.rx ∧ s.outsideRx t

/-- R133: any other byte in SEEK writes RX_EVENT and nothing else. -/
def Obligations.SeekDiscardWritesOnlyTheEvent : Prop :=
  ∀ (s : State) (b : Byte), s.rx.rxState = .seek → b ≠ 0xAA →
    exec (.rxSeekDiscard b) s = .next { s with rx := { s.rx with rxEvent := .none } }

/-- R135: a body byte at offset 1 to 5, whatever its value. -/
def Obligations.BodyByteIsStoredAndSummed : Prop :=
  ∀ (s : State) (b : Byte), s.rx.rxState = .body → 1 ≤ s.rx.rxIdx.val → s.rx.rxIdx.val ≤ 5 →
    ∃ t, exec (.rxBodySum b) s = .next t ∧ t.rx.rxBuf[s.rx.rxIdx] = b ∧
      (∀ j : Fin 8, j ≠ s.rx.rxIdx → t.rx.rxBuf[j] = s.rx.rxBuf[j]) ∧
      t.rx.rxAcc.toNat = (s.rx.rxAcc.toNat + b.toNat) % 256 ∧ t.rx.rxIdx.val = s.rx.rxIdx.val + 1 ∧
      t.rx.rxState = .body ∧ t.rx.rxEvent = .none ∧
      s.rx.sameSlots t.rx ∧ s.rx.sameCounters t.rx ∧ s.outsideRx t

/-- R136: the sixth body byte is the received checksum, stored and not summed. -/
def Obligations.ChecksumByteIsStoredNotSummed : Prop :=
  ∀ (s : State) (b : Byte), s.rx.rxState = .body → s.rx.rxIdx.val = 6 →
    ∃ t, exec (.rxBodyChk b) s = .next t ∧ t.rx.rxBuf[6] = b ∧
      (∀ j : Fin 8, j.val ≠ 6 → t.rx.rxBuf[j] = s.rx.rxBuf[j]) ∧
      t.rx.rxAcc = s.rx.rxAcc ∧ t.rx.rxIdx = 7 ∧ t.rx.rxState = .endMark ∧ t.rx.rxEvent = .none ∧
      s.rx.sameSlots t.rx ∧ s.rx.sameCounters t.rx ∧ s.outsideRx t

/-- R137: the end marker with a matching checksum accepts the frame: the slots are loaded little-endian (R114), GOOD_CNT
counts up to its saturation, the parser returns to SEEK. -/
def Obligations.EndMarkerWithMatchAccepts : Prop :=
  ∀ s : State, s.rx.rxState = .endMark → s.rx.rxIdx.val = 7 → s.rx.rxAcc = s.rx.rxBuf[6] →
    ∃ t, exec .rxEndAccept s = .next t ∧ t.rx.rxOpcode = s.rx.rxBuf[1] ∧
      t.rx.rxInt1 = s.rx.rxBuf[3] ++ s.rx.rxBuf[2] ∧ t.rx.rxInt2 = s.rx.rxBuf[5] ++ s.rx.rxBuf[4] ∧
      t.rx.rxFbits = s.rx.rxBuf[5] ++ s.rx.rxBuf[4] ++ s.rx.rxBuf[3] ++ s.rx.rxBuf[2] ∧
      t.rx.goodCnt.toNat = min (s.rx.goodCnt.toNat + 1) (2 ^ 32 - 1) ∧
      t.rx.frmCnt = s.rx.frmCnt ∧ t.rx.chkCnt = s.rx.chkCnt ∧ t.rx.rxEvent = .accept ∧
      t.rx.rxState = .seek ∧ t.rx.rxIdx = 0 ∧ t.rx.rxAcc = s.rx.rxAcc ∧ t.rx.rxBuf = s.rx.rxBuf ∧ s.outsideRx t

/-- R138: the end marker with a mismatch discards the frame and counts it. -/
def Obligations.EndMarkerWithMismatchIsChecksumError : Prop :=
  ∀ s : State, s.rx.rxState = .endMark → s.rx.rxIdx.val = 7 → s.rx.rxAcc ≠ s.rx.rxBuf[6] →
    ∃ t, exec .rxEndChkerr s = .next t ∧ t.rx.chkCnt.toNat = min (s.rx.chkCnt.toNat + 1) (2 ^ 32 - 1) ∧
      t.rx.goodCnt = s.rx.goodCnt ∧ t.rx.frmCnt = s.rx.frmCnt ∧ t.rx.rxEvent = .checksumErr ∧
      t.rx.rxState = .seek ∧ t.rx.rxIdx = 0 ∧ t.rx.rxAcc = s.rx.rxAcc ∧ t.rx.rxBuf = s.rx.rxBuf ∧
      s.rx.sameSlots t.rx ∧ s.outsideRx t

/-- R139: any other byte in END, 0xAA too, discards the frame and counts it. -/
def Obligations.OtherByteInEndIsFramingError : Prop :=
  ∀ (s : State) (b : Byte), s.rx.rxState = .endMark → s.rx.rxIdx.val = 7 → b ≠ 0xA8 →
    ∃ t, exec (.rxEndFramerr b) s = .next t ∧ t.rx.frmCnt.toNat = min (s.rx.frmCnt.toNat + 1) (2 ^ 32 - 1) ∧
      t.rx.goodCnt = s.rx.goodCnt ∧ t.rx.chkCnt = s.rx.chkCnt ∧ t.rx.rxEvent = .framingErr ∧
      t.rx.rxState = .seek ∧ t.rx.rxIdx = 0 ∧ t.rx.rxAcc = s.rx.rxAcc ∧ t.rx.rxBuf = s.rx.rxBuf ∧
      s.rx.sameSlots t.rx ∧ s.outsideRx t

/-- R140: in END the end-marker test comes first and the checksum test second, and each end-of-frame byte moves exactly
one counter (by the saturating count of R27). -/
def Obligations.FrameEndMovesExactlyOneCounter : Prop :=
  ∀ (s : State) (b : Byte) (rest : List StepInput), s.rx.rxState = .endMark → s.rx.rxIdx.val = 7 →
    s.inputs = rxLine [b] ++ rest →
    ∃ t, step s = .next t ∧ t.rx.rxState = .seek ∧
      (if b ≠ 0xA8 then
        t.rx.rxEvent = .framingErr ∧ t.rx.frmCnt = countUp s.rx.frmCnt ∧
          t.rx.goodCnt = s.rx.goodCnt ∧ t.rx.chkCnt = s.rx.chkCnt
      else if s.rx.rxAcc ≠ s.rx.rxBuf[6] then
        t.rx.rxEvent = .checksumErr ∧ t.rx.chkCnt = countUp s.rx.chkCnt ∧
          t.rx.goodCnt = s.rx.goodCnt ∧ t.rx.frmCnt = s.rx.frmCnt
      else
        t.rx.rxEvent = .accept ∧ t.rx.goodCnt = countUp s.rx.goodCnt ∧
          t.rx.frmCnt = s.rx.frmCnt ∧ t.rx.chkCnt = s.rx.chkCnt)

/-! ### Laws of the receive side over whole frames -/

/-- R134: position, not value, decides. After a start marker in SEEK, whatever the next seven bytes are, the parser is
back in SEEK exactly seven bytes later and not before. -/
def Obligations.FrameBoundaryIsSevenBytesAfterTheStart : Prop :=
  ∀ (s : State) (bs : List Byte) (rest : List StepInput), s.rx.rxState = .seek → bs.length = 7 →
    s.inputs = rxLine (0xAA :: bs) ++ rest →
    (∃ t, runSteps 8 s = .next t ∧ t.rx.rxState = .seek ∧ t.inputs = rest) ∧
    ∀ k, 1 ≤ k → k ≤ 7 → ∃ t, runSteps k s = .next t ∧ t.rx.rxState ≠ .seek

/-- R141: the frame encode_command(op, p1, p2) fed from SEEK is accepted exactly once, at its eighth byte, with its
operands in the slots; GOOD_CNT counts it and no other counter moves. -/
def Obligations.EncodedCommandIsAcceptedOnce : Prop :=
  ∀ (s : State) (op : Byte) (p1 p2 : Half) (rest : List StepInput), s.rx.rxState = .seek →
    s.inputs = frameLine op p1 p2 ++ rest →
    (∃ t, runSteps 8 s = .next t ∧ t.rx.rxEvent = .accept ∧ t.rx.rxOpcode = op ∧ t.rx.rxInt1 = p1 ∧
      t.rx.rxInt2 = p2 ∧ t.rx.goodCnt = countUp s.rx.goodCnt ∧ t.rx.frmCnt = s.rx.frmCnt ∧
      t.rx.chkCnt = s.rx.chkCnt ∧ t.rx.rxState = .seek ∧ t.inputs = rest) ∧
    ∀ k, 1 ≤ k → k ≤ 7 → ∃ t, runSteps k s = .next t ∧ t.rx.rxEvent = .none

/-- R142: one of the offsets 1 to 5 of a valid frame changed, the checksum byte and the markers kept: fed from SEEK it
gives CHECKSUM_ERR, CHK_CNT counts it, and no ACCEPT occurs. -/
def Obligations.SingleCorruptionIsAChecksumError : Prop :=
  ∀ (s : State) (op : Byte) (p1 p2 : Half) (k : Fin 8) (v : Byte) (rest : List StepInput), s.rx.rxState = .seek →
    1 ≤ k.val → k.val ≤ 5 → v ≠ (encodeCommand op p1 p2)[k] →
    s.inputs = rxLine ((encodeCommand op p1 p2).set k.val v k.isLt).toList ++ rest →
    (∃ t, runSteps 8 s = .next t ∧ t.rx.rxEvent = .checksumErr ∧ t.rx.chkCnt = countUp s.rx.chkCnt ∧
      t.rx.goodCnt = s.rx.goodCnt ∧ t.rx.frmCnt = s.rx.frmCnt ∧ s.rx.sameSlots t.rx ∧ t.rx.rxState = .seek) ∧
    ∀ n, n ≤ 8 → ∃ t, runSteps n s = .next t ∧ (1 ≤ n → t.rx.rxEvent ≠ .accept)

/-- R143: after any END outcome, caused by any byte, a well-formed frame that follows immediately is accepted. -/
def Obligations.FrameAfterAnyEndOutcomeIsAccepted : Prop :=
  ∀ (s : State) (b op : Byte) (p1 p2 : Half) (rest : List StepInput), s.rx.rxState = .endMark → s.rx.rxIdx.val = 7 →
    s.inputs = rxLine [b] ++ frameLine op p1 p2 ++ rest →
    ∃ t, runSteps 9 s = .next t ∧ t.rx.rxEvent = .accept ∧ t.rx.rxOpcode = op ∧ t.rx.rxInt1 = p1 ∧ t.rx.rxInt2 = p2

/-- R91, R139, D41: a telemetry frame fed to the receive port from SEEK meets, at offset 7, the high byte of its target
angle: FRAMING_ERR exactly where that byte is not 0xA8, as D41 says. R91's words "is not accepted" leave out the case in
which it is 0xA8; the ruling of log 15 is that the base rules decide there: ACCEPT where the byte before it is the sum of
offsets 1 to 5 (R137), CHECKSUM_ERR where it is another (R138). Where it accepts, the eight bytes are, byte for byte, the inbound frame
encode_command(0x01, st, e), and the parser, which by R91 tells shapes apart "never by content", accepts it as R141
requires of every op. -/
def Obligations.TelemetryFrameOnTheReceivePort : Prop :=
  (∀ (s : State) (st e tg : Half) (rest : List StepInput), s.rx.rxState = .seek →
    s.inputs = rxLine ((encodeTelemetry st e tg).toList.take 8) ++ rest →
    ∃ t, runSteps 8 s = .next t ∧ (t.rx.rxEvent = .framingErr ↔ hi8 tg ≠ 0xA8) ∧
      (t.rx.rxEvent = .accept ↔ hi8 tg = 0xA8 ∧ lo8 tg = cks (encodeTelemetry st e tg).toList 1 5) ∧
      (t.rx.rxEvent = .checksumErr ↔ hi8 tg = 0xA8 ∧ lo8 tg ≠ cks (encodeTelemetry st e tg).toList 1 5)) ∧
  ∀ (st e tg : Half) (op : Byte) (p1 p2 : Half),
    (encodeTelemetry st e tg).toList.take 8 = (encodeCommand op p1 p2).toList ↔
      (op = Config.telemOp ∧ p1 = st ∧ p2 = e) ∧
        hi8 tg = 0xA8 ∧ lo8 tg = cks (encodeTelemetry st e tg).toList 1 5

/-- R245: the parameter slots keep their values for at least seven steps after the parser is back in SEEK, whatever is
offered short of the block reset. -/
def Obligations.SlotsHoldForSevenSteps : Prop :=
  ∀ (s : State) (n : Nat), s.rx.rxState = .seek → n ≤ 7 → (∀ x ∈ s.inputs.take n, x.rst = false) →
    ∃ t, runSteps n s = .next t ∧ s.rx.sameSlots t.rx ∧ (1 ≤ n → t.rx.rxEvent ≠ .accept)

/-! ### The transmit row and the codec -/

/-- R111, R112: TX_ENCODE latches the ten bytes of the telemetry frame and raises TX_VALID; nothing else changes. -/
def Obligations.TxEncodeLatchesTheTelemetryFrame : Prop :=
  ∀ (s : State) (st e tg : Half),
    ∃ t, exec (.txEncode st e tg) s = .next t ∧ t.tx.txValid = true ∧ s.outsideTx t ∧
      t.tx.txFrame = #v[0xAA, 0x01, st.extractLsb' 0 8, st.extractLsb' 8 8, e.extractLsb' 0 8, e.extractLsb' 8 8,
        tg.extractLsb' 0 8, tg.extractLsb' 8 8,
        BitVec.ofNat 8 (1 + (st.toNat % 256 + st.toNat / 256) + (e.toNat % 256 + e.toNat / 256)
          + (tg.toNat % 256 + tg.toNat / 256)), 0xA8]

/-- R118: the round trips of the codec. -/
def Obligations.CodecRoundTrips : Prop :=
  (∀ s e t : Half, decodeTelemetry (encodeTelemetry s e t) = { ok := true, steer := s, err := e, tgt := t }) ∧
  (∀ (op : Byte) (p1 p2 : Half),
    decodeParams (encodeCommand op p1 p2) = { opcode := op, int1 := p1, int2 := p2, fbits := p2 ++ p1 })

/-- R120: changing any one interior byte of any byte sequence changes its checksum. -/
def Obligations.ChecksumSeesOneChangedByte : Prop :=
  ∀ (f : List Byte) (a b k : Nat) (v : Byte), a ≤ k → k ≤ b → ∀ h : k < f.length, v ≠ f[k] →
    cks (f.set k v) a b ≠ cks f a b

/-! ### The PID commands -/

/-- R161: NOP writes CMD_STATUS and nothing else. -/
def Obligations.NopWritesOnlyTheStatus : Prop :=
  ∀ s : State, exec .pidNop s = .next { s with pid := { s.pid with cmdStatus := .ok } }

/-- R162: RESET zeroes the dynamic state, captures the time and leaves the settings alone. -/
def Obligations.PidResetRebasesTheController : Prop :=
  ∀ (s : State) (now : Word),
    ∃ t, exec (.pidReset now) s = .next t ∧ t.pid.iAcc = 0 ∧ t.pid.prevErr = 0 ∧ t.pid.prevTime = now ∧
      t.pid.servoOut = 0 ∧ t.pid.dtZero = false ∧ t.pid.tbValid = true ∧ t.pid.cmdStatus = .ok ∧
      s.pid.sameSettings t.pid ∧ s.outsidePid t

/-- R164, R165, R166, R169: each gain write takes any s32 value, and changes its register and CMD_STATUS alone. -/
def Obligations.GainWritesTakeAnyValue : Prop :=
  ∀ (s : State) (v : Word),
    exec (.pidWrKp v) s = .next { s with pid := { s.pid with kp := v, cmdStatus := .ok } } ∧
    exec (.pidWrKi v) s = .next { s with pid := { s.pid with ki := v, cmdStatus := .ok } } ∧
    exec (.pidWrKd v) s = .next { s with pid := { s.pid with kd := v, cmdStatus := .ok } } ∧
    exec (.pidWrSgain v) s = .next { s with pid := { s.pid with sgain := v, cmdStatus := .ok } }

/-- R167: WR_MAXI takes a value that is not negative and refuses a negative one as a no-op with OUT_OF_RANGE; I_ACC is
not re-clamped. -/
def Obligations.WrMaxiRefusesNegativeBounds : Prop :=
  ∀ (s : State) (v : Word),
    exec (.pidWrMaxi v) s =
      if v.toInt < 0 then .next { s with pid := { s.pid with cmdStatus := .outOfRange } }
      else .next { s with pid := { s.pid with maxi := v, cmdStatus := .ok } }

/-- R168: WR_DIR takes 0 and 1 and refuses any other value as a no-op with OUT_OF_RANGE. -/
def Obligations.WrDirTakesZeroOrOne : Prop :=
  ∀ (s : State) (v : Word),
    exec (.pidWrDir v) s =
      if v = 0 then .next { s with pid := { s.pid with dirNeg := false, cmdStatus := .ok } }
      else if v = 1 then .next { s with pid := { s.pid with dirNeg := true, cmdStatus := .ok } }
      else .next { s with pid := { s.pid with cmdStatus := .outOfRange } }

/-- R170, R88: the reserved ops 0x9 to 0xF change nothing but CMD_STATUS = ILLEGAL_OP, whatever their operands. -/
def Obligations.ReservedOpsOnlyReportIllegalOp : Prop :=
  ∀ s : State,
    exec .pidReserved9 s = .next { s with pid := { s.pid with cmdStatus := .illegalOp } } ∧
    (∀ low, exec (.pidReservedAB low) s = .next { s with pid := { s.pid with cmdStatus := .illegalOp } }) ∧
    (∀ low, exec (.pidReservedCF low) s = .next { s with pid := { s.pid with cmdStatus := .illegalOp } }) ∧
    ∀ c : PidCommand, 9 ≤ c.op.toNat →
      exec (decodeCmd c) s = .next { s with pid := { s.pid with cmdStatus := .illegalOp } }

/-- R163: UPDATE, all of its pseudocode on exact integers: the error, the three terms, the two clamps and the flags
(R34 as premise: MAXI is never negative). -/
def Obligations.UpdateComputesThePidLaw : Prop :=
  ∀ (s : State) (tgt now : Word), 0 ≤ s.pid.maxi.toInt →
    ∃ t, exec (.pidUpdate tgt now) s = .next t ∧
      (let e : Int := max (-2 ^ 31) (min (0 - tgt.toInt) (2 ^ 31 - 1))
       let de : Int := e - s.pid.prevErr.toInt
       let dt : Int := ((now.toNat : Int) - (s.pid.prevTime.toNat : Int)) % 2 ^ 32
       let p : Int := Int.tdiv (s.pid.kp.toInt * e) (2 ^ 16)
       let inew : Int := max (-s.pid.maxi.toInt)
         (min (s.pid.iAcc.toInt + Int.tdiv (s.pid.ki.toInt * e) (2 ^ 16)) s.pid.maxi.toInt)
       let d : Int := if dt = 0 then 0 else Int.tdiv (s.pid.kd.toInt * de) (dt * 2 ^ 16)
       let sum : Int := p + inew + d
       let raw : Int := if s.pid.dirNeg then -sum else sum
       t.pid.iAcc.toInt = inew ∧ t.pid.prevErr.toInt = e ∧ t.pid.prevTime = now ∧
         t.pid.servoOut.toInt = max (-3276800) (min raw 3276800) ∧ (t.pid.dtZero = true ↔ dt = 0)) ∧
      t.pid.cmdStatus = .ok ∧ t.pid.tbValid = s.pid.tbValid ∧ s.pid.sameSettings t.pid ∧ s.outsidePid t

/-- R171: the widths of UPDATE's intermediate values, over all operands (R34 as premise). -/
def Obligations.UpdateTermsFitTheirWidths : Prop :=
  ∀ (p : PidUnit) (tgt now : Word), 0 ≤ p.maxi.toInt →
    |updErr tgt| ≤ 2 ^ 31 - 1 ∧ |updDelta p tgt| ≤ 2 ^ 32 - 1 ∧
    |p.kp.toInt * updErr tgt| ≤ 2 ^ 62 ∧ |updP p tgt| ≤ 2 ^ 46 ∧ |updI p tgt| ≤ 2 ^ 31 - 1 ∧
    |p.kd.toInt * updDelta p tgt| < 2 ^ 63 ∧ |updD p tgt now| < 2 ^ 47 ∧ |updSum p tgt now| < 2 ^ 48

/-- R172 (b) and (c): after every UPDATE SERVO_OUT is within ±50, whatever the operands and gains, and I_ACC within
±MAXI (R34 as premise of that clause). -/
def Obligations.UpdateOutputsAreBounded : Prop :=
  ∀ (s : State) (tgt now : Word), ∃ t, exec (.pidUpdate tgt now) s = .next t ∧
    |t.pid.servoOut.toInt| ≤ 50 * 2 ^ 16 ∧
    (0 ≤ s.pid.maxi.toInt → |t.pid.iAcc.toInt| ≤ t.pid.maxi.toInt)

/-- R172 (a): from a RESET, any number of UPDATEs with target 0 gives SERVO_OUT = 0 each time, whatever the gains and
times. -/
def Obligations.ZeroTargetHoldsTheServoAtZero : Prop :=
  ∀ (s : State) (n0 : Word) (nows : List Word) (rest : List StepInput), 0 ≤ s.pid.maxi.toInt →
    s.inputs = cmdLine 0x1 0 n0 ++ updateLines (nows.map fun n => (0, n)) ++ rest →
    ∀ k, k ≤ nows.length → ∃ t, runSteps (k + 1) s = .next t ∧ t.pid.servoOut = 0 ∧ t.pid.iAcc = 0 ∧ t.pid.prevErr = 0

/-- R172 (d): odd symmetry. Two units with the same settings, each after a RESET at the same time, fed opposite targets
(none of them −2^31) at the same times, stay opposite in error, integral and output, with the same DT_ZERO. -/
def Obligations.OppositeTargetsGiveOppositeOutputs : Prop :=
  ∀ (s s' : State) (n0 : Word) (us : List (Word × Word)) (rest rest' : List StepInput),
    s.pid.sameSettings s'.pid → 0 ≤ s.pid.maxi.toInt → (∀ u ∈ us, u.1.toInt ≠ -2 ^ 31) →
    s.inputs = cmdLine 0x1 0 n0 ++ updateLines us ++ rest →
    s'.inputs = cmdLine 0x1 0 n0 ++ updateLines (us.map fun u => (-u.1, u.2)) ++ rest' →
    ∀ k, k ≤ us.length → ∃ t t', runSteps (k + 1) s = .next t ∧ runSteps (k + 1) s' = .next t' ∧ t.pid.mirrors t'.pid

/-- R247: only differences of timestamps count, modulo 2^32: UPDATE at `now + c` from a baseline later by `c` gives what
UPDATE at `now` gives, but for PREV_TIME. -/
def Obligations.UpdateDependsOnTimeDifferences : Prop :=
  ∀ (s : State) (tgt now c : Word), ∃ t,
    exec (.pidUpdate tgt now) s = .next t ∧
    exec (.pidUpdate tgt (now + c)) { s with pid := { s.pid with prevTime := s.pid.prevTime + c } } =
      .next { t with pid := { t.pid with prevTime := now + c } }

/-- R67: the register writes, RESET and TX_ENCODE are idempotent. -/
def Obligations.WritesAreIdempotent : Prop :=
  ∀ (s : State) (v : Word) (st e tg : Half) (i : Instr),
    i ∈ [Instr.txEncode st e tg, .pidReset v, .pidWrKp v, .pidWrKi v, .pidWrKd v, .pidWrMaxi v, .pidWrDir v,
      .pidWrSgain v] →
    ∃ t, exec i s = .next t ∧ exec i t = .next t
end

