-- ==== Sys2Proof/Laws/Arith.lean ====
section
/-! SUPPORT. What the primitives of 00_scope R9, the narrowing and the saturating count do, each said once. -/

namespace Sys2Proof.Machine

/-- Where R9 defines it, tdiv is the truncating quotient. -/
theorem tdiv_of_ne_zero {b : Int} (a : Int) (h : b ≠ 0) : tdiv a b = Int.tdiv a b := if_neg h

/-- R9's formula for tdiv: the signs times the quotient of the magnitudes, rounded down. -/
theorem tdiv_eq_signs_mul_quotient {b : Int} (a : Int) (hb : b ≠ 0) :
    tdiv a b = a.sign * b.sign * ((a.natAbs / b.natAbs : Nat) : Int) := by
  have key : ∀ m n : Nat, Int.tdiv (m : Int) n = (m : Int).sign * (n : Int).sign * ((m / n : Nat) : Int) := by
    intro m n
    rw [← Int.ofNat_tdiv]
    rcases m with _ | m
    · simp
    · rcases n with _ | n
      · simp
      · simp [Int.sign_natCast_add_one]
  rw [tdiv_of_ne_zero a hb]
  rcases Int.natAbs_eq a with h | h <;> rcases Int.natAbs_eq b with h' | h' <;>
    rw [h, h'] <;> simp only [Int.neg_tdiv, Int.tdiv_neg, Int.sign_neg, Int.natAbs_neg, Int.natAbs_natCast, key] <;> ring

theorem tdiv_neg_left {b : Int} (a : Int) (h : b ≠ 0) : tdiv (-a) b = -tdiv a b := by
  rw [tdiv_of_ne_zero _ h, tdiv_of_ne_zero _ h, Int.neg_tdiv]

theorem tdiv_zero_left {b : Int} (h : b ≠ 0) : tdiv 0 b = 0 := by
  rw [tdiv_of_ne_zero _ h, Int.zero_tdiv]

/-- The magnitude of a quotient is the quotient of the magnitudes. -/
theorem natAbs_tdiv {b : Int} (a : Int) (h : b ≠ 0) : (tdiv a b).natAbs = a.natAbs / b.natAbs := by
  rw [tdiv_of_ne_zero _ h, Int.natAbs_tdiv]
  rfl

theorem fxOne_ne_zero : Config.fxOne ≠ 0 := by decide

/-- The one divisor that depends on operands, guarded by dt ≠ 0 (70_reset_and_hazards R241). -/
theorem updDt_mul_fxOne_ne_zero {p : PidUnit} {now : Word} (h : updDt p now ≠ 0) :
    ((updDt p now).toNat : Int) * Config.fxOne ≠ 0 := by
  refine mul_ne_zero (fun h0 => h (BitVec.eq_of_toNat_eq ?_)) fxOne_ne_zero
  exact_mod_cast h0

/-- UPDATE never divides by zero: P, by the truncating quotient. -/
theorem updP_eq_tdiv (p : PidUnit) (tgt : Word) : updP p tgt = Int.tdiv (p.kp.toInt * updErr tgt) Config.fxOne :=
  tdiv_of_ne_zero _ fxOne_ne_zero

/-- UPDATE never divides by zero: Inew, by the truncating quotient. -/
theorem updI_eq_tdiv (p : PidUnit) (tgt : Word) :
    updI p tgt = clamp (p.iAcc.toInt + Int.tdiv (p.ki.toInt * updErr tgt) Config.fxOne) (-p.maxi.toInt) p.maxi.toInt := by
  unfold updI
  rw [tdiv_of_ne_zero _ fxOne_ne_zero]

/-- UPDATE never divides by zero: D, by the truncating quotient where dt ≠ 0 (R241). -/
theorem updD_eq_tdiv (p : PidUnit) (tgt now : Word) :
    updD p tgt now = if updDt p now = 0 then 0
      else Int.tdiv (p.kd.toInt * updDelta p tgt) ((updDt p now).toNat * Config.fxOne) := by
  unfold updD
  split
  · rfl
  · rename_i h
    exact tdiv_of_ne_zero _ (updDt_mul_fxOne_ne_zero h)

/-- Where its bounds are ordered, clamp is the larger of `lo` and the smaller of `x` and `hi`. -/
theorem clamp_eq_max_min {x lo hi : Int} (h : lo ≤ hi) : clamp x lo hi = max lo (min x hi) := by
  unfold clamp
  rw [if_pos h]
  split <;> (try split) <;> omega

theorem le_clamp {x lo hi : Int} (h : lo ≤ hi) : lo ≤ clamp x lo hi := by
  rw [clamp_eq_max_min h]; omega

theorem clamp_le {x lo hi : Int} (h : lo ≤ hi) : clamp x lo hi ≤ hi := by
  rw [clamp_eq_max_min h]; omega

/-- clamp with symmetric bounds commutes with negation (42_pid R172 d). -/
theorem clamp_neg {x m : Int} (h : 0 ≤ m) : clamp (-x) (-m) m = -clamp x (-m) m := by
  rw [clamp_eq_max_min (by omega), clamp_eq_max_min (by omega)]; omega

/-- Narrowing is exact on every s32 value. -/
theorem narrow32_toInt {v : Int} (h₁ : -2 ^ 31 ≤ v) (h₂ : v < 2 ^ 31) : (narrow32 v).toInt = v :=
  BitVec.toInt_ofInt_eq_self (by decide) h₁ h₂

theorem word_toInt_range (w : Word) : -2 ^ 31 ≤ w.toInt ∧ w.toInt < 2 ^ 31 :=
  ⟨BitVec.le_toInt w, BitVec.toInt_lt⟩

/-- e is −tgt, but for tgt = −2^31 (D12). -/
theorem updErr_eq_min (tgt : Word) : updErr tgt = min (-tgt.toInt) (2 ^ 31 - 1) := by
  have := word_toInt_range tgt
  unfold updErr sat32
  rw [clamp_eq_max_min (by decide)]
  omega

/-- The saturating count (10_state R27) as a number. -/
theorem countUp_toNat (c : Word) : (countUp c).toNat = min (c.toNat + 1) (2 ^ 32 - 1) := by
  simp only [countUp, BitVec.toNat_ofNat, Config.counterMax]
  omega

end Sys2Proof.Machine
end

