-- ==== Sys2Proof/Laws/Decode.lean ====
section
/-! SUPPORT. What the byte-order helpers and the decoder of the receive port do, each said once. -/

namespace Sys2Proof

/-- A 16-bit field is joined from its own bytes (R85 after R86). -/
theorem join16_lo8_hi8 (v : Half) : Machine.join16 (Machine.lo8 v) (Machine.hi8 v) = v := by
  ext i hi; simp [Machine.join16, Machine.lo8, Machine.hi8]; grind

theorem lo8_join16 (a b : Byte) : Machine.lo8 (Machine.join16 a b) = a := by
  ext i hi; simp only [Machine.lo8, Machine.join16, BitVec.getElem_extractLsb', BitVec.getLsbD_append]; grind

theorem hi8_join16 (a b : Byte) : Machine.hi8 (Machine.join16 a b) = b := by
  ext i hi; simp only [Machine.hi8, Machine.join16, BitVec.getElem_extractLsb', BitVec.getLsbD_append]; grind

/-- A 32-bit field is joined from its own bytes. -/
theorem join32_byteOf (v : Word) :
    Machine.join32 (Machine.byteOf v 0) (Machine.byteOf v 1) (Machine.byteOf v 2) (Machine.byteOf v 3) = v := by
  ext i hi; simp [Machine.join32, Machine.byteOf]; grind

/-- The bytes of a field joined from four bytes are those bytes. -/
theorem byteOf_join32 (b0 b1 b2 b3 : Byte) :
    Machine.byteOf (Machine.join32 b0 b1 b2 b3) 0 = b0 ∧ Machine.byteOf (Machine.join32 b0 b1 b2 b3) 1 = b1 ∧
      Machine.byteOf (Machine.join32 b0 b1 b2 b3) 2 = b2 ∧ Machine.byteOf (Machine.join32 b0 b1 b2 b3) 3 = b3 := by
  refine ⟨?_, ?_, ?_, ?_⟩ <;> ext i hi <;> simp [Machine.byteOf, Machine.join32] <;> grind

/-- What the decoder answers for a received byte is a well-formed row that takes this byte in this parser state. -/
theorem decodeRx_ok {v : RxView} {b : Byte} {i : Instr} (h : decodeRx v b = .ok i) :
    i.wellFormed = true ∧ encodeOp i = .rx b ∧ v.selects i = true := by
  simp only [decodeRx] at h
  cases hs : v.state <;> simp only [hs] at h <;> repeat' split at h
  all_goals first
    | (simp only [Except.ok.injEq] at h
       subst h
       simp_all [Instr.wellFormed, encodeOp, RxView.selects, Config.startMarker, Config.endMarker])
    | cases h

/-- Conversely, the decoder answers every well-formed row that takes this byte in this parser state. -/
theorem decodeRx_of_selects {v : RxView} {b : Byte} {i : Instr} (hw : i.wellFormed = true)
    (he : encodeOp i = .rx b) (hs : v.selects i = true) : decodeRx v b = .ok i := by
  cases i <;> simp_all [Instr.wellFormed, encodeOp, RxView.selects, Config.startMarker, Config.endMarker, decodeRx]

/-- Every command is a well-formed instruction of the command port, whatever the parser state. -/
theorem decodeCmd_selected (c : PidCommand) (v : RxView) :
    (decodeCmd c).wellFormed = true ∧ v.selects (decodeCmd c) = true ∧ (decodeCmd c).port = .command := by
  unfold decodeCmd
  split <;> exact ⟨rfl, rfl, rfl⟩

end Sys2Proof
end

