-- ==== Sys2Proof/Laws/State.lean ====
section
/-! SUPPORT. One lemma per field per register update, true by rfl, so that no proof unfolds a record update. -/

namespace Sys2Proof.Machine

section RxUnitUpdates

variable (r : RxUnit)

@[simp] theorem RxUnit.setEvent_rxState (e : RxEvent) : (r.setEvent e).rxState = r.rxState := rfl
@[simp] theorem RxUnit.setEvent_rxIdx (e : RxEvent) : (r.setEvent e).rxIdx = r.rxIdx := rfl
@[simp] theorem RxUnit.setEvent_rxAcc (e : RxEvent) : (r.setEvent e).rxAcc = r.rxAcc := rfl
@[simp] theorem RxUnit.setEvent_rxBuf (e : RxEvent) : (r.setEvent e).rxBuf = r.rxBuf := rfl
@[simp] theorem RxUnit.setEvent_rxOpcode (e : RxEvent) : (r.setEvent e).rxOpcode = r.rxOpcode := rfl
@[simp] theorem RxUnit.setEvent_rxInt1 (e : RxEvent) : (r.setEvent e).rxInt1 = r.rxInt1 := rfl
@[simp] theorem RxUnit.setEvent_rxInt2 (e : RxEvent) : (r.setEvent e).rxInt2 = r.rxInt2 := rfl
@[simp] theorem RxUnit.setEvent_rxFbits (e : RxEvent) : (r.setEvent e).rxFbits = r.rxFbits := rfl
@[simp] theorem RxUnit.setEvent_goodCnt (e : RxEvent) : (r.setEvent e).goodCnt = r.goodCnt := rfl
@[simp] theorem RxUnit.setEvent_frmCnt (e : RxEvent) : (r.setEvent e).frmCnt = r.frmCnt := rfl
@[simp] theorem RxUnit.setEvent_chkCnt (e : RxEvent) : (r.setEvent e).chkCnt = r.chkCnt := rfl
@[simp] theorem RxUnit.setEvent_rxEvent (e : RxEvent) : (r.setEvent e).rxEvent = e := rfl

@[simp] theorem RxUnit.startFrame_rxState : (r.startFrame).rxState = .body := rfl
@[simp] theorem RxUnit.startFrame_rxIdx : (r.startFrame).rxIdx = 1 := rfl
@[simp] theorem RxUnit.startFrame_rxAcc : (r.startFrame).rxAcc = 0 := rfl
@[simp] theorem RxUnit.startFrame_rxBuf : (r.startFrame).rxBuf = r.rxBuf.set 0 Config.startMarker := rfl
@[simp] theorem RxUnit.startFrame_rxOpcode : (r.startFrame).rxOpcode = r.rxOpcode := rfl
@[simp] theorem RxUnit.startFrame_rxInt1 : (r.startFrame).rxInt1 = r.rxInt1 := rfl
@[simp] theorem RxUnit.startFrame_rxInt2 : (r.startFrame).rxInt2 = r.rxInt2 := rfl
@[simp] theorem RxUnit.startFrame_rxFbits : (r.startFrame).rxFbits = r.rxFbits := rfl
@[simp] theorem RxUnit.startFrame_goodCnt : (r.startFrame).goodCnt = r.goodCnt := rfl
@[simp] theorem RxUnit.startFrame_frmCnt : (r.startFrame).frmCnt = r.frmCnt := rfl
@[simp] theorem RxUnit.startFrame_chkCnt : (r.startFrame).chkCnt = r.chkCnt := rfl
@[simp] theorem RxUnit.startFrame_rxEvent : (r.startFrame).rxEvent = .none := rfl

@[simp] theorem RxUnit.pushBody_rxState (b : Byte) : (r.pushBody b).rxState = r.rxState := rfl
@[simp] theorem RxUnit.pushBody_rxIdx (b : Byte) : (r.pushBody b).rxIdx = r.rxIdx + 1 := rfl
@[simp] theorem RxUnit.pushBody_rxAcc (b : Byte) : (r.pushBody b).rxAcc = r.rxAcc + b := rfl
@[simp] theorem RxUnit.pushBody_rxBuf (b : Byte) : (r.pushBody b).rxBuf = r.rxBuf.set r.rxIdx.val b r.rxIdx.isLt :=
  rfl
@[simp] theorem RxUnit.pushBody_rxOpcode (b : Byte) : (r.pushBody b).rxOpcode = r.rxOpcode := rfl
@[simp] theorem RxUnit.pushBody_rxInt1 (b : Byte) : (r.pushBody b).rxInt1 = r.rxInt1 := rfl
@[simp] theorem RxUnit.pushBody_rxInt2 (b : Byte) : (r.pushBody b).rxInt2 = r.rxInt2 := rfl
@[simp] theorem RxUnit.pushBody_rxFbits (b : Byte) : (r.pushBody b).rxFbits = r.rxFbits := rfl
@[simp] theorem RxUnit.pushBody_goodCnt (b : Byte) : (r.pushBody b).goodCnt = r.goodCnt := rfl
@[simp] theorem RxUnit.pushBody_frmCnt (b : Byte) : (r.pushBody b).frmCnt = r.frmCnt := rfl
@[simp] theorem RxUnit.pushBody_chkCnt (b : Byte) : (r.pushBody b).chkCnt = r.chkCnt := rfl
@[simp] theorem RxUnit.pushBody_rxEvent (b : Byte) : (r.pushBody b).rxEvent = .none := rfl

@[simp] theorem RxUnit.storeChk_rxState (b : Byte) : (r.storeChk b).rxState = .endMark := rfl
@[simp] theorem RxUnit.storeChk_rxIdx (b : Byte) : (r.storeChk b).rxIdx = 7 := rfl
@[simp] theorem RxUnit.storeChk_rxAcc (b : Byte) : (r.storeChk b).rxAcc = r.rxAcc := rfl
@[simp] theorem RxUnit.storeChk_rxBuf (b : Byte) : (r.storeChk b).rxBuf = r.rxBuf.set 6 b := rfl
@[simp] theorem RxUnit.storeChk_rxOpcode (b : Byte) : (r.storeChk b).rxOpcode = r.rxOpcode := rfl
@[simp] theorem RxUnit.storeChk_rxInt1 (b : Byte) : (r.storeChk b).rxInt1 = r.rxInt1 := rfl
@[simp] theorem RxUnit.storeChk_rxInt2 (b : Byte) : (r.storeChk b).rxInt2 = r.rxInt2 := rfl
@[simp] theorem RxUnit.storeChk_rxFbits (b : Byte) : (r.storeChk b).rxFbits = r.rxFbits := rfl
@[simp] theorem RxUnit.storeChk_goodCnt (b : Byte) : (r.storeChk b).goodCnt = r.goodCnt := rfl
@[simp] theorem RxUnit.storeChk_frmCnt (b : Byte) : (r.storeChk b).frmCnt = r.frmCnt := rfl
@[simp] theorem RxUnit.storeChk_chkCnt (b : Byte) : (r.storeChk b).chkCnt = r.chkCnt := rfl
@[simp] theorem RxUnit.storeChk_rxEvent (b : Byte) : (r.storeChk b).rxEvent = .none := rfl

@[simp] theorem RxUnit.toSeek_rxState (e : RxEvent) : (r.toSeek e).rxState = .seek := rfl
@[simp] theorem RxUnit.toSeek_rxIdx (e : RxEvent) : (r.toSeek e).rxIdx = 0 := rfl
@[simp] theorem RxUnit.toSeek_rxAcc (e : RxEvent) : (r.toSeek e).rxAcc = r.rxAcc := rfl
@[simp] theorem RxUnit.toSeek_rxBuf (e : RxEvent) : (r.toSeek e).rxBuf = r.rxBuf := rfl
@[simp] theorem RxUnit.toSeek_rxOpcode (e : RxEvent) : (r.toSeek e).rxOpcode = r.rxOpcode := rfl
@[simp] theorem RxUnit.toSeek_rxInt1 (e : RxEvent) : (r.toSeek e).rxInt1 = r.rxInt1 := rfl
@[simp] theorem RxUnit.toSeek_rxInt2 (e : RxEvent) : (r.toSeek e).rxInt2 = r.rxInt2 := rfl
@[simp] theorem RxUnit.toSeek_rxFbits (e : RxEvent) : (r.toSeek e).rxFbits = r.rxFbits := rfl
@[simp] theorem RxUnit.toSeek_goodCnt (e : RxEvent) : (r.toSeek e).goodCnt = r.goodCnt := rfl
@[simp] theorem RxUnit.toSeek_frmCnt (e : RxEvent) : (r.toSeek e).frmCnt = r.frmCnt := rfl
@[simp] theorem RxUnit.toSeek_chkCnt (e : RxEvent) : (r.toSeek e).chkCnt = r.chkCnt := rfl
@[simp] theorem RxUnit.toSeek_rxEvent (e : RxEvent) : (r.toSeek e).rxEvent = e := rfl

@[simp] theorem RxUnit.loadSlots_rxState (p : Params) : (r.loadSlots p).rxState = r.rxState := rfl
@[simp] theorem RxUnit.loadSlots_rxIdx (p : Params) : (r.loadSlots p).rxIdx = r.rxIdx := rfl
@[simp] theorem RxUnit.loadSlots_rxAcc (p : Params) : (r.loadSlots p).rxAcc = r.rxAcc := rfl
@[simp] theorem RxUnit.loadSlots_rxBuf (p : Params) : (r.loadSlots p).rxBuf = r.rxBuf := rfl
@[simp] theorem RxUnit.loadSlots_rxOpcode (p : Params) : (r.loadSlots p).rxOpcode = p.opcode := rfl
@[simp] theorem RxUnit.loadSlots_rxInt1 (p : Params) : (r.loadSlots p).rxInt1 = p.int1 := rfl
@[simp] theorem RxUnit.loadSlots_rxInt2 (p : Params) : (r.loadSlots p).rxInt2 = p.int2 := rfl
@[simp] theorem RxUnit.loadSlots_rxFbits (p : Params) : (r.loadSlots p).rxFbits = p.fbits := rfl
@[simp] theorem RxUnit.loadSlots_goodCnt (p : Params) : (r.loadSlots p).goodCnt = r.goodCnt := rfl
@[simp] theorem RxUnit.loadSlots_frmCnt (p : Params) : (r.loadSlots p).frmCnt = r.frmCnt := rfl
@[simp] theorem RxUnit.loadSlots_chkCnt (p : Params) : (r.loadSlots p).chkCnt = r.chkCnt := rfl
@[simp] theorem RxUnit.loadSlots_rxEvent (p : Params) : (r.loadSlots p).rxEvent = r.rxEvent := rfl

@[simp] theorem RxUnit.countGood_rxState : (r.countGood).rxState = r.rxState := rfl
@[simp] theorem RxUnit.countGood_rxIdx : (r.countGood).rxIdx = r.rxIdx := rfl
@[simp] theorem RxUnit.countGood_rxAcc : (r.countGood).rxAcc = r.rxAcc := rfl
@[simp] theorem RxUnit.countGood_rxBuf : (r.countGood).rxBuf = r.rxBuf := rfl
@[simp] theorem RxUnit.countGood_rxOpcode : (r.countGood).rxOpcode = r.rxOpcode := rfl
@[simp] theorem RxUnit.countGood_rxInt1 : (r.countGood).rxInt1 = r.rxInt1 := rfl
@[simp] theorem RxUnit.countGood_rxInt2 : (r.countGood).rxInt2 = r.rxInt2 := rfl
@[simp] theorem RxUnit.countGood_rxFbits : (r.countGood).rxFbits = r.rxFbits := rfl
@[simp] theorem RxUnit.countGood_goodCnt : (r.countGood).goodCnt = countUp r.goodCnt := rfl
@[simp] theorem RxUnit.countGood_frmCnt : (r.countGood).frmCnt = r.frmCnt := rfl
@[simp] theorem RxUnit.countGood_chkCnt : (r.countGood).chkCnt = r.chkCnt := rfl
@[simp] theorem RxUnit.countGood_rxEvent : (r.countGood).rxEvent = r.rxEvent := rfl

@[simp] theorem RxUnit.countFrm_rxState : (r.countFrm).rxState = r.rxState := rfl
@[simp] theorem RxUnit.countFrm_rxIdx : (r.countFrm).rxIdx = r.rxIdx := rfl
@[simp] theorem RxUnit.countFrm_rxAcc : (r.countFrm).rxAcc = r.rxAcc := rfl
@[simp] theorem RxUnit.countFrm_rxBuf : (r.countFrm).rxBuf = r.rxBuf := rfl
@[simp] theorem RxUnit.countFrm_rxOpcode : (r.countFrm).rxOpcode = r.rxOpcode := rfl
@[simp] theorem RxUnit.countFrm_rxInt1 : (r.countFrm).rxInt1 = r.rxInt1 := rfl
@[simp] theorem RxUnit.countFrm_rxInt2 : (r.countFrm).rxInt2 = r.rxInt2 := rfl
@[simp] theorem RxUnit.countFrm_rxFbits : (r.countFrm).rxFbits = r.rxFbits := rfl
@[simp] theorem RxUnit.countFrm_goodCnt : (r.countFrm).goodCnt = r.goodCnt := rfl
@[simp] theorem RxUnit.countFrm_frmCnt : (r.countFrm).frmCnt = countUp r.frmCnt := rfl
@[simp] theorem RxUnit.countFrm_chkCnt : (r.countFrm).chkCnt = r.chkCnt := rfl
@[simp] theorem RxUnit.countFrm_rxEvent : (r.countFrm).rxEvent = r.rxEvent := rfl

@[simp] theorem RxUnit.countChk_rxState : (r.countChk).rxState = r.rxState := rfl
@[simp] theorem RxUnit.countChk_rxIdx : (r.countChk).rxIdx = r.rxIdx := rfl
@[simp] theorem RxUnit.countChk_rxAcc : (r.countChk).rxAcc = r.rxAcc := rfl
@[simp] theorem RxUnit.countChk_rxBuf : (r.countChk).rxBuf = r.rxBuf := rfl
@[simp] theorem RxUnit.countChk_rxOpcode : (r.countChk).rxOpcode = r.rxOpcode := rfl
@[simp] theorem RxUnit.countChk_rxInt1 : (r.countChk).rxInt1 = r.rxInt1 := rfl
@[simp] theorem RxUnit.countChk_rxInt2 : (r.countChk).rxInt2 = r.rxInt2 := rfl
@[simp] theorem RxUnit.countChk_rxFbits : (r.countChk).rxFbits = r.rxFbits := rfl
@[simp] theorem RxUnit.countChk_goodCnt : (r.countChk).goodCnt = r.goodCnt := rfl
@[simp] theorem RxUnit.countChk_frmCnt : (r.countChk).frmCnt = r.frmCnt := rfl
@[simp] theorem RxUnit.countChk_chkCnt : (r.countChk).chkCnt = countUp r.chkCnt := rfl
@[simp] theorem RxUnit.countChk_rxEvent : (r.countChk).rxEvent = r.rxEvent := rfl

end RxUnitUpdates

section TxUnitUpdates

variable (u : TxUnit)

@[simp] theorem TxUnit.latch_txFrame (f : Vector Byte 10) : (u.latch f).txFrame = f := rfl
@[simp] theorem TxUnit.latch_txValid (f : Vector Byte 10) : (u.latch f).txValid = true := rfl

@[simp] theorem TxUnit.idle_txFrame : (u.idle).txFrame = u.txFrame := rfl
@[simp] theorem TxUnit.idle_txValid : (u.idle).txValid = false := rfl

end TxUnitUpdates

section PidUnitUpdates

variable (p : PidUnit)

@[simp] theorem PidUnit.setStatus_kp (c : CmdStatus) : (p.setStatus c).kp = p.kp := rfl
@[simp] theorem PidUnit.setStatus_ki (c : CmdStatus) : (p.setStatus c).ki = p.ki := rfl
@[simp] theorem PidUnit.setStatus_kd (c : CmdStatus) : (p.setStatus c).kd = p.kd := rfl
@[simp] theorem PidUnit.setStatus_maxi (c : CmdStatus) : (p.setStatus c).maxi = p.maxi := rfl
@[simp] theorem PidUnit.setStatus_dirNeg (c : CmdStatus) : (p.setStatus c).dirNeg = p.dirNeg := rfl
@[simp] theorem PidUnit.setStatus_sgain (c : CmdStatus) : (p.setStatus c).sgain = p.sgain := rfl
@[simp] theorem PidUnit.setStatus_iAcc (c : CmdStatus) : (p.setStatus c).iAcc = p.iAcc := rfl
@[simp] theorem PidUnit.setStatus_prevErr (c : CmdStatus) : (p.setStatus c).prevErr = p.prevErr := rfl
@[simp] theorem PidUnit.setStatus_prevTime (c : CmdStatus) : (p.setStatus c).prevTime = p.prevTime := rfl
@[simp] theorem PidUnit.setStatus_servoOut (c : CmdStatus) : (p.setStatus c).servoOut = p.servoOut := rfl
@[simp] theorem PidUnit.setStatus_tbValid (c : CmdStatus) : (p.setStatus c).tbValid = p.tbValid := rfl
@[simp] theorem PidUnit.setStatus_dtZero (c : CmdStatus) : (p.setStatus c).dtZero = p.dtZero := rfl
@[simp] theorem PidUnit.setStatus_cmdStatus (c : CmdStatus) : (p.setStatus c).cmdStatus = c := rfl

@[simp] theorem PidUnit.rebase_kp (now : Word) : (p.rebase now).kp = p.kp := rfl
@[simp] theorem PidUnit.rebase_ki (now : Word) : (p.rebase now).ki = p.ki := rfl
@[simp] theorem PidUnit.rebase_kd (now : Word) : (p.rebase now).kd = p.kd := rfl
@[simp] theorem PidUnit.rebase_maxi (now : Word) : (p.rebase now).maxi = p.maxi := rfl
@[simp] theorem PidUnit.rebase_dirNeg (now : Word) : (p.rebase now).dirNeg = p.dirNeg := rfl
@[simp] theorem PidUnit.rebase_sgain (now : Word) : (p.rebase now).sgain = p.sgain := rfl
@[simp] theorem PidUnit.rebase_iAcc (now : Word) : (p.rebase now).iAcc = 0 := rfl
@[simp] theorem PidUnit.rebase_prevErr (now : Word) : (p.rebase now).prevErr = 0 := rfl
@[simp] theorem PidUnit.rebase_prevTime (now : Word) : (p.rebase now).prevTime = now := rfl
@[simp] theorem PidUnit.rebase_servoOut (now : Word) : (p.rebase now).servoOut = 0 := rfl
@[simp] theorem PidUnit.rebase_tbValid (now : Word) : (p.rebase now).tbValid = true := rfl
@[simp] theorem PidUnit.rebase_dtZero (now : Word) : (p.rebase now).dtZero = false := rfl
@[simp] theorem PidUnit.rebase_cmdStatus (now : Word) : (p.rebase now).cmdStatus = p.cmdStatus := rfl

@[simp] theorem PidUnit.update_kp (tgt now : Word) : (p.update tgt now).kp = p.kp := rfl
@[simp] theorem PidUnit.update_ki (tgt now : Word) : (p.update tgt now).ki = p.ki := rfl
@[simp] theorem PidUnit.update_kd (tgt now : Word) : (p.update tgt now).kd = p.kd := rfl
@[simp] theorem PidUnit.update_maxi (tgt now : Word) : (p.update tgt now).maxi = p.maxi := rfl
@[simp] theorem PidUnit.update_dirNeg (tgt now : Word) : (p.update tgt now).dirNeg = p.dirNeg := rfl
@[simp] theorem PidUnit.update_sgain (tgt now : Word) : (p.update tgt now).sgain = p.sgain := rfl
@[simp] theorem PidUnit.update_iAcc (tgt now : Word) : (p.update tgt now).iAcc = narrow32 (updI p tgt) := rfl
@[simp] theorem PidUnit.update_prevErr (tgt now : Word) : (p.update tgt now).prevErr = narrow32 (updErr tgt) := rfl
@[simp] theorem PidUnit.update_prevTime (tgt now : Word) : (p.update tgt now).prevTime = now := rfl
@[simp] theorem PidUnit.update_servoOut (tgt now : Word) : (p.update tgt now).servoOut = narrow32 (updServo p tgt now) :=
  rfl
@[simp] theorem PidUnit.update_tbValid (tgt now : Word) : (p.update tgt now).tbValid = p.tbValid := rfl
@[simp] theorem PidUnit.update_dtZero (tgt now : Word) : (p.update tgt now).dtZero = dtZeroFlag p now := rfl
@[simp] theorem PidUnit.update_cmdStatus (tgt now : Word) : (p.update tgt now).cmdStatus = p.cmdStatus := rfl

@[simp] theorem PidUnit.setKp_kp (v : Word) : (p.setKp v).kp = v := rfl
@[simp] theorem PidUnit.setKp_ki (v : Word) : (p.setKp v).ki = p.ki := rfl
@[simp] theorem PidUnit.setKp_kd (v : Word) : (p.setKp v).kd = p.kd := rfl
@[simp] theorem PidUnit.setKp_maxi (v : Word) : (p.setKp v).maxi = p.maxi := rfl
@[simp] theorem PidUnit.setKp_dirNeg (v : Word) : (p.setKp v).dirNeg = p.dirNeg := rfl
@[simp] theorem PidUnit.setKp_sgain (v : Word) : (p.setKp v).sgain = p.sgain := rfl
@[simp] theorem PidUnit.setKp_iAcc (v : Word) : (p.setKp v).iAcc = p.iAcc := rfl
@[simp] theorem PidUnit.setKp_prevErr (v : Word) : (p.setKp v).prevErr = p.prevErr := rfl
@[simp] theorem PidUnit.setKp_prevTime (v : Word) : (p.setKp v).prevTime = p.prevTime := rfl
@[simp] theorem PidUnit.setKp_servoOut (v : Word) : (p.setKp v).servoOut = p.servoOut := rfl
@[simp] theorem PidUnit.setKp_tbValid (v : Word) : (p.setKp v).tbValid = p.tbValid := rfl
@[simp] theorem PidUnit.setKp_dtZero (v : Word) : (p.setKp v).dtZero = p.dtZero := rfl
@[simp] theorem PidUnit.setKp_cmdStatus (v : Word) : (p.setKp v).cmdStatus = p.cmdStatus := rfl

@[simp] theorem PidUnit.setKi_kp (v : Word) : (p.setKi v).kp = p.kp := rfl
@[simp] theorem PidUnit.setKi_ki (v : Word) : (p.setKi v).ki = v := rfl
@[simp] theorem PidUnit.setKi_kd (v : Word) : (p.setKi v).kd = p.kd := rfl
@[simp] theorem PidUnit.setKi_maxi (v : Word) : (p.setKi v).maxi = p.maxi := rfl
@[simp] theorem PidUnit.setKi_dirNeg (v : Word) : (p.setKi v).dirNeg = p.dirNeg := rfl
@[simp] theorem PidUnit.setKi_sgain (v : Word) : (p.setKi v).sgain = p.sgain := rfl
@[simp] theorem PidUnit.setKi_iAcc (v : Word) : (p.setKi v).iAcc = p.iAcc := rfl
@[simp] theorem PidUnit.setKi_prevErr (v : Word) : (p.setKi v).prevErr = p.prevErr := rfl
@[simp] theorem PidUnit.setKi_prevTime (v : Word) : (p.setKi v).prevTime = p.prevTime := rfl
@[simp] theorem PidUnit.setKi_servoOut (v : Word) : (p.setKi v).servoOut = p.servoOut := rfl
@[simp] theorem PidUnit.setKi_tbValid (v : Word) : (p.setKi v).tbValid = p.tbValid := rfl
@[simp] theorem PidUnit.setKi_dtZero (v : Word) : (p.setKi v).dtZero = p.dtZero := rfl
@[simp] theorem PidUnit.setKi_cmdStatus (v : Word) : (p.setKi v).cmdStatus = p.cmdStatus := rfl

@[simp] theorem PidUnit.setKd_kp (v : Word) : (p.setKd v).kp = p.kp := rfl
@[simp] theorem PidUnit.setKd_ki (v : Word) : (p.setKd v).ki = p.ki := rfl
@[simp] theorem PidUnit.setKd_kd (v : Word) : (p.setKd v).kd = v := rfl
@[simp] theorem PidUnit.setKd_maxi (v : Word) : (p.setKd v).maxi = p.maxi := rfl
@[simp] theorem PidUnit.setKd_dirNeg (v : Word) : (p.setKd v).dirNeg = p.dirNeg := rfl
@[simp] theorem PidUnit.setKd_sgain (v : Word) : (p.setKd v).sgain = p.sgain := rfl
@[simp] theorem PidUnit.setKd_iAcc (v : Word) : (p.setKd v).iAcc = p.iAcc := rfl
@[simp] theorem PidUnit.setKd_prevErr (v : Word) : (p.setKd v).prevErr = p.prevErr := rfl
@[simp] theorem PidUnit.setKd_prevTime (v : Word) : (p.setKd v).prevTime = p.prevTime := rfl
@[simp] theorem PidUnit.setKd_servoOut (v : Word) : (p.setKd v).servoOut = p.servoOut := rfl
@[simp] theorem PidUnit.setKd_tbValid (v : Word) : (p.setKd v).tbValid = p.tbValid := rfl
@[simp] theorem PidUnit.setKd_dtZero (v : Word) : (p.setKd v).dtZero = p.dtZero := rfl
@[simp] theorem PidUnit.setKd_cmdStatus (v : Word) : (p.setKd v).cmdStatus = p.cmdStatus := rfl

@[simp] theorem PidUnit.setMaxi_kp (v : Word) : (p.setMaxi v).kp = p.kp := rfl
@[simp] theorem PidUnit.setMaxi_ki (v : Word) : (p.setMaxi v).ki = p.ki := rfl
@[simp] theorem PidUnit.setMaxi_kd (v : Word) : (p.setMaxi v).kd = p.kd := rfl
@[simp] theorem PidUnit.setMaxi_maxi (v : Word) : (p.setMaxi v).maxi = if maxiStatus v = .ok then v else p.maxi := rfl
@[simp] theorem PidUnit.setMaxi_dirNeg (v : Word) : (p.setMaxi v).dirNeg = p.dirNeg := rfl
@[simp] theorem PidUnit.setMaxi_sgain (v : Word) : (p.setMaxi v).sgain = p.sgain := rfl
@[simp] theorem PidUnit.setMaxi_iAcc (v : Word) : (p.setMaxi v).iAcc = p.iAcc := rfl
@[simp] theorem PidUnit.setMaxi_prevErr (v : Word) : (p.setMaxi v).prevErr = p.prevErr := rfl
@[simp] theorem PidUnit.setMaxi_prevTime (v : Word) : (p.setMaxi v).prevTime = p.prevTime := rfl
@[simp] theorem PidUnit.setMaxi_servoOut (v : Word) : (p.setMaxi v).servoOut = p.servoOut := rfl
@[simp] theorem PidUnit.setMaxi_tbValid (v : Word) : (p.setMaxi v).tbValid = p.tbValid := rfl
@[simp] theorem PidUnit.setMaxi_dtZero (v : Word) : (p.setMaxi v).dtZero = p.dtZero := rfl
@[simp] theorem PidUnit.setMaxi_cmdStatus (v : Word) : (p.setMaxi v).cmdStatus = p.cmdStatus := rfl

@[simp] theorem PidUnit.setDir_kp (v : Word) : (p.setDir v).kp = p.kp := rfl
@[simp] theorem PidUnit.setDir_ki (v : Word) : (p.setDir v).ki = p.ki := rfl
@[simp] theorem PidUnit.setDir_kd (v : Word) : (p.setDir v).kd = p.kd := rfl
@[simp] theorem PidUnit.setDir_maxi (v : Word) : (p.setDir v).maxi = p.maxi := rfl
@[simp] theorem PidUnit.setDir_dirNeg (v : Word) : (p.setDir v).dirNeg = if dirStatus v = .ok then v.getLsbD 0 else p.dirNeg :=
  rfl
@[simp] theorem PidUnit.setDir_sgain (v : Word) : (p.setDir v).sgain = p.sgain := rfl
@[simp] theorem PidUnit.setDir_iAcc (v : Word) : (p.setDir v).iAcc = p.iAcc := rfl
@[simp] theorem PidUnit.setDir_prevErr (v : Word) : (p.setDir v).prevErr = p.prevErr := rfl
@[simp] theorem PidUnit.setDir_prevTime (v : Word) : (p.setDir v).prevTime = p.prevTime := rfl
@[simp] theorem PidUnit.setDir_servoOut (v : Word) : (p.setDir v).servoOut = p.servoOut := rfl
@[simp] theorem PidUnit.setDir_tbValid (v : Word) : (p.setDir v).tbValid = p.tbValid := rfl
@[simp] theorem PidUnit.setDir_dtZero (v : Word) : (p.setDir v).dtZero = p.dtZero := rfl
@[simp] theorem PidUnit.setDir_cmdStatus (v : Word) : (p.setDir v).cmdStatus = p.cmdStatus := rfl

@[simp] theorem PidUnit.setSgain_kp (v : Word) : (p.setSgain v).kp = p.kp := rfl
@[simp] theorem PidUnit.setSgain_ki (v : Word) : (p.setSgain v).ki = p.ki := rfl
@[simp] theorem PidUnit.setSgain_kd (v : Word) : (p.setSgain v).kd = p.kd := rfl
@[simp] theorem PidUnit.setSgain_maxi (v : Word) : (p.setSgain v).maxi = p.maxi := rfl
@[simp] theorem PidUnit.setSgain_dirNeg (v : Word) : (p.setSgain v).dirNeg = p.dirNeg := rfl
@[simp] theorem PidUnit.setSgain_sgain (v : Word) : (p.setSgain v).sgain = v := rfl
@[simp] theorem PidUnit.setSgain_iAcc (v : Word) : (p.setSgain v).iAcc = p.iAcc := rfl
@[simp] theorem PidUnit.setSgain_prevErr (v : Word) : (p.setSgain v).prevErr = p.prevErr := rfl
@[simp] theorem PidUnit.setSgain_prevTime (v : Word) : (p.setSgain v).prevTime = p.prevTime := rfl
@[simp] theorem PidUnit.setSgain_servoOut (v : Word) : (p.setSgain v).servoOut = p.servoOut := rfl
@[simp] theorem PidUnit.setSgain_tbValid (v : Word) : (p.setSgain v).tbValid = p.tbValid := rfl
@[simp] theorem PidUnit.setSgain_dtZero (v : Word) : (p.setSgain v).dtZero = p.dtZero := rfl
@[simp] theorem PidUnit.setSgain_cmdStatus (v : Word) : (p.setSgain v).cmdStatus = p.cmdStatus := rfl

end PidUnitUpdates

section StateUpdates

variable (s : State)

@[simp] theorem State.withRx_rx (r : RxUnit) : (s.withRx r).rx = r := rfl
@[simp] theorem State.withRx_tx (r : RxUnit) : (s.withRx r).tx = s.tx := rfl
@[simp] theorem State.withRx_pid (r : RxUnit) : (s.withRx r).pid = s.pid := rfl
@[simp] theorem State.withRx_inputs (r : RxUnit) : (s.withRx r).inputs = s.inputs := rfl

@[simp] theorem State.withTx_rx (u : TxUnit) : (s.withTx u).rx = s.rx := rfl
@[simp] theorem State.withTx_tx (u : TxUnit) : (s.withTx u).tx = u := rfl
@[simp] theorem State.withTx_pid (u : TxUnit) : (s.withTx u).pid = s.pid := rfl
@[simp] theorem State.withTx_inputs (u : TxUnit) : (s.withTx u).inputs = s.inputs := rfl

@[simp] theorem State.withPid_rx (p : PidUnit) : (s.withPid p).rx = s.rx := rfl
@[simp] theorem State.withPid_tx (p : PidUnit) : (s.withPid p).tx = s.tx := rfl
@[simp] theorem State.withPid_pid (p : PidUnit) : (s.withPid p).pid = p := rfl
@[simp] theorem State.withPid_inputs (p : PidUnit) : (s.withPid p).inputs = s.inputs := rfl

@[simp] theorem State.blockReset_rx : (s.blockReset).rx = .reset := rfl
@[simp] theorem State.blockReset_tx : (s.blockReset).tx = .reset := rfl
@[simp] theorem State.blockReset_pid : (s.blockReset).pid = .reset := rfl
@[simp] theorem State.blockReset_inputs : (s.blockReset).inputs = s.inputs := rfl

@[simp] theorem State.dropInput_rx : (s.dropInput).rx = s.rx := rfl
@[simp] theorem State.dropInput_tx : (s.dropInput).tx = s.tx := rfl
@[simp] theorem State.dropInput_pid : (s.dropInput).pid = s.pid := rfl
@[simp] theorem State.dropInput_inputs : (s.dropInput).inputs = s.inputs.tail := rfl

end StateUpdates

end Sys2Proof.Machine
end

