-- ==== Sys2Proof/Laws/Exec.lean ====
section
/-! SUPPORT. What exec does, by port: a receive row acts on the receive side alone and only where it is selected, the
transmit row on the transmit side alone, a command on the PID unit alone. -/

namespace Sys2Proof.Machine

/-- What an instruction makes of the receive side (the writes of R132 to R139). -/
def rxEffect (i : Instr) (r : RxUnit) : RxUnit :=
  match i with
  | .rxSeekStart => r.startFrame
  | .rxSeekDiscard _ => r.setEvent .none
  | .rxBodySum b => r.pushBody b
  | .rxBodyChk b => r.storeChk b
  | .rxEndAccept => ((r.loadSlots (decodeParams r.rxBuf)).countGood).toSeek .accept
  | .rxEndChkerr => r.countChk.toSeek .checksumErr
  | .rxEndFramerr _ => r.countFrm.toSeek .framingErr
  | _ => r

/-- What an instruction makes of the PID unit (the writes of R161 to R170). -/
def pidEffect (i : Instr) (p : PidUnit) : PidUnit :=
  match i with
  | .pidNop => p.setStatus .ok
  | .pidReset now => (p.rebase now).setStatus .ok
  | .pidUpdate tgt now => (p.update tgt now).setStatus .ok
  | .pidWrKp v => (p.setKp v).setStatus .ok
  | .pidWrKi v => (p.setKi v).setStatus .ok
  | .pidWrKd v => (p.setKd v).setStatus .ok
  | .pidWrMaxi v => (p.setMaxi v).setStatus (maxiStatus v)
  | .pidWrDir v => (p.setDir v).setStatus (dirStatus v)
  | .pidWrSgain v => (p.setSgain v).setStatus .ok
  | .pidReserved9 => p.setStatus .illegalOp
  | .pidReservedAB _ => p.setStatus .illegalOp
  | .pidReservedCF _ => p.setStatus .illegalOp
  | _ => p

theorem exec_receive {i : Instr} (h : i.port = .receive) (s : State) :
    exec i s = whenSelected i s (rxEffect i s.rx) := by
  cases i <;> first | rfl | cases h

theorem exec_transmit (st e tg : Half) (s : State) :
    exec (.txEncode st e tg) s = .next (s.withTx (s.tx.latch (encodeTelemetry st e tg))) := rfl

theorem exec_command {i : Instr} (h : i.port = .command) (s : State) :
    exec i s = .next (s.withPid (pidEffect i s.pid)) := by
  cases i <;> first | rfl | cases h

/-- The only instruction of the transmit port. -/
theorem eq_txEncode_of_port {i : Instr} (h : i.port = .transmit) : ∃ st e tg, i = .txEncode st e tg := by
  cases i with
  | txEncode st e tg => exact ⟨st, e, tg, rfl⟩
  | _ => cases h

end Sys2Proof.Machine
end

