-- ==== Sys2Proof/Laws/Ops.lean ====
section
/-! SUPPORT. What each shared operation can answer, said once, and what one step is: the three units side by side. -/

namespace Sys2Proof.Machine

/-- A receive row answers a next state exactly where its condition holds, and then only the receive side is new. -/
theorem whenSelected_eq_next {i : Instr} {s t : State} {r : RxUnit} :
    whenSelected i s r = .next t ↔ i.wellFormed = true ∧ s.rx.view.selects i = true ∧ t = s.withRx r := by
  unfold whenSelected
  split <;> rename_i h <;> simp only [Bool.and_eq_true] at h
  · simp [h, eq_comm]
  · simp only [reduceCtorEq, false_iff]
    exact fun ⟨a, b, _⟩ => h ⟨a, b⟩

theorem whenSelected_of {i : Instr} {s : State} (r : RxUnit) (h : i.wellFormed = true)
    (h' : s.rx.view.selects i = true) : whenSelected i s r = .next (s.withRx r) :=
  whenSelected_eq_next.2 ⟨h, h', rfl⟩

/-- A PID command always answers a next state, in which only the PID unit is new. -/
@[simp] theorem pidNext_eq_next {s t : State} {p : PidUnit} : pidNext s p = .next t ↔ t = s.withPid p := by
  simp [pidNext, eq_comm]

/-- A sequence answers a next state exactly where both parts do. -/
theorem andThen_eq_next {o : Result} {f : State → Result} {t : State} :
    andThen o f = .next t ↔ ∃ u, o = .next u ∧ f u = .next t := by
  cases o <;> simp [andThen]

@[simp] theorem andThen_next {s : State} {f : State → Result} : andThen (.next s) f = f s := rfl

/-- The wires of a port are rejected for one reason only. -/
theorem decodeOp_error {v : RxView} {o : PortOp} {e : DecodeError} (h : decodeOp v o = .error e) :
    e = .parserUnreachable := by
  cases o with
  | rx b =>
    simp only [decodeOp, decodeRx] at h
    cases hv : v.state <;> simp only [hv] at h <;> split at h <;> (try split at h) <;> (try split at h) <;> simp_all
  | tx r => simp [decodeOp] at h
  | cmd c => simp [decodeOp] at h

/-- The receive side after one step's receive port (R131), none where R131 gives no transition. -/
def rxAfter (x : Option Byte) (r : RxUnit) : Option RxUnit :=
  match x with
  | none => some (r.setEvent .none)
  | some b =>
    match r.rxState with
    | .seek => some (if b = Config.startMarker then r.startFrame else r.setEvent .none)
    | .body =>
      if 1 ≤ r.rxIdx.val ∧ r.rxIdx.val ≤ 5 then some (r.pushBody b)
      else if r.rxIdx.val = 6 then some (r.storeChk b)
      else none
    | .endMark =>
      if r.rxIdx.val = 7 then
        some (if b = Config.endMarker then
          if r.rxAcc = r.rxBuf[6] then ((r.loadSlots (decodeParams r.rxBuf)).countGood).toSeek .accept
          else r.countChk.toSeek .checksumErr
        else r.countFrm.toSeek .framingErr)
      else none

/-- The transmit side after one step's transmit port (R111). -/
def txAfter (x : Option TxRequest) (u : TxUnit) : TxUnit :=
  match x with
  | none => u.idle
  | some r => u.latch (encodeTelemetry r.steer r.err r.tgt)

/-- The PID unit after one command (R160 to R170). -/
def cmdAfter (c : PidCommand) (p : PidUnit) : PidUnit :=
  match c.op.toNat with
  | 0x0 => p.setStatus .ok
  | 0x1 => (p.rebase c.now).setStatus .ok
  | 0x2 => (p.update c.data c.now).setStatus .ok
  | 0x3 => (p.setKp c.data).setStatus .ok
  | 0x4 => (p.setKi c.data).setStatus .ok
  | 0x5 => (p.setKd c.data).setStatus .ok
  | 0x6 => (p.setMaxi c.data).setStatus (maxiStatus c.data)
  | 0x7 => (p.setDir c.data).setStatus (dirStatus c.data)
  | 0x8 => (p.setSgain c.data).setStatus .ok
  | _ => p.setStatus .illegalOp

/-- What the PID unit can become on a command: the ten rules, each under its op code. -/
theorem cmdAfter_cases (c : PidCommand) (p : PidUnit) :
    (c.op.toNat = 0x0 ∧ cmdAfter c p = p.setStatus .ok) ∨
    (c.op.toNat = 0x1 ∧ cmdAfter c p = (p.rebase c.now).setStatus .ok) ∨
    (c.op.toNat = 0x2 ∧ cmdAfter c p = (p.update c.data c.now).setStatus .ok) ∨
    (c.op.toNat = 0x3 ∧ cmdAfter c p = (p.setKp c.data).setStatus .ok) ∨
    (c.op.toNat = 0x4 ∧ cmdAfter c p = (p.setKi c.data).setStatus .ok) ∨
    (c.op.toNat = 0x5 ∧ cmdAfter c p = (p.setKd c.data).setStatus .ok) ∨
    (c.op.toNat = 0x6 ∧ cmdAfter c p = (p.setMaxi c.data).setStatus (maxiStatus c.data)) ∨
    (c.op.toNat = 0x7 ∧ cmdAfter c p = (p.setDir c.data).setStatus (dirStatus c.data)) ∨
    (c.op.toNat = 0x8 ∧ cmdAfter c p = (p.setSgain c.data).setStatus .ok) ∨
    (9 ≤ c.op.toNat ∧ cmdAfter c p = p.setStatus .illegalOp) := by
  unfold cmdAfter
  split <;> rename_i h
  case h_10 => exact .inr (.inr (.inr (.inr (.inr (.inr (.inr (.inr (.inr ⟨by grind, rfl⟩))))))))
  all_goals simp [h]

/-- The PID unit after one step's command port (R160). -/
def pidAfter (x : Option PidCommand) (p : PidUnit) : PidUnit :=
  match x with
  | none => p
  | some c => cmdAfter c p

theorem stepRx_eq (x : Option Byte) (s : State) :
    stepRx x s = match rxAfter x s.rx with
      | some r => .next (s.withRx r)
      | none => .fault .parserUnreachable := by
  cases x with
  | none => rfl
  | some b =>
    cases hs : s.rx.rxState with
    | seek =>
      by_cases hb : b = Config.startMarker <;>
        simp [stepRx, runOp, decodeOp, decodeRx, rxAfter, exec, execRxSeekStart, execRxSeekDiscard, whenSelected,
          Instr.wellFormed, RxView.selects, RxUnit.view, hs, hb]
    | body =>
      by_cases h : 1 ≤ s.rx.rxIdx.val ∧ s.rx.rxIdx.val ≤ 5
      · simp [stepRx, runOp, decodeOp, decodeRx, rxAfter, exec, execRxBodySum, whenSelected, Instr.wellFormed,
          RxView.selects, RxUnit.view, hs, h]
      · by_cases h' : s.rx.rxIdx.val = 6 <;>
          simp [stepRx, runOp, decodeOp, decodeRx, rxAfter, exec, execRxBodyChk, whenSelected, Instr.wellFormed,
            RxView.selects, RxUnit.view, hs, h, h']
    | endMark =>
      by_cases h : s.rx.rxIdx.val = 7 <;> by_cases hb : b = Config.endMarker <;>
        by_cases ha : s.rx.rxAcc = s.rx.rxBuf[6] <;>
          simp [stepRx, runOp, decodeOp, decodeRx, rxAfter, exec, execRxEndAccept, execRxEndChkerr, execRxEndFramerr,
            whenSelected, Instr.wellFormed, RxView.selects, RxUnit.view, hs, h, hb, ha]

theorem stepTx_eq (x : Option TxRequest) (s : State) : stepTx x s = .next (s.withTx (txAfter x s.tx)) := by
  cases x <;> rfl

/-- Every command runs, and only the PID unit is new. -/
theorem exec_decodeCmd (c : PidCommand) (s : State) : exec (decodeCmd c) s = .next (s.withPid (cmdAfter c s.pid)) := by
  unfold decodeCmd cmdAfter
  split <;> rename_i h <;> (try simp only [h]) <;> (try rfl)

theorem stepCmd_eq (x : Option PidCommand) (s : State) : stepCmd x s = .next (s.withPid (pidAfter x s.pid)) := by
  cases x with
  | none => rfl
  | some c => exact exec_decodeCmd c s

/-- One step, said once: the block reset where rst = 1; otherwise each unit's own port, side by side; a fault only where
R131 gives the parser no transition. -/
theorem step_eq (s : State) :
    step s =
      if s.nextInput.rst then .next s.dropInput.blockReset
      else match rxAfter s.nextInput.rx s.rx with
        | some r => .next { rx := r, tx := txAfter s.nextInput.tx s.tx, pid := pidAfter s.nextInput.cmd s.pid,
                            inputs := s.inputs.tail }
        | none => .fault .parserUnreachable := by
  unfold step applyInput
  split
  · rfl
  · rw [stepRx_eq, State.dropInput_rx]
    cases rxAfter s.nextInput.rx s.rx with
    | none => rfl
    | some r =>
      simp only [andThen_next, stepTx_eq, stepCmd_eq]
      rfl

/-- What a step that answers next has done. -/
theorem step_eq_next {s t : State} (h : step s = .next t) :
    (s.nextInput.rst = true ∧ t = s.dropInput.blockReset) ∨
    (s.nextInput.rst = false ∧ ∃ r, rxAfter s.nextInput.rx s.rx = some r ∧
      t = { rx := r, tx := txAfter s.nextInput.tx s.tx, pid := pidAfter s.nextInput.cmd s.pid,
            inputs := s.inputs.tail }) := by
  rw [step_eq] at h
  split at h
  · rename_i hr
    exact .inl ⟨hr, by simpa using h.symm⟩
  · rename_i hr
    refine .inr ⟨by simpa using hr, ?_⟩
    split at h
    · rename_i r hr'
      exact ⟨r, hr', by simpa using h.symm⟩
    · cases h

/-- What the receive side can become on one step's receive port: the seven rows, or no byte. -/
theorem rxAfter_cases {x : Option Byte} {r q : RxUnit} (h : rxAfter x r = some q) :
    (x = none ∧ q = r.setEvent .none) ∨
    (∃ b, x = some b ∧
      ((r.rxState = .seek ∧ b = Config.startMarker ∧ q = r.startFrame) ∨
       (r.rxState = .seek ∧ b ≠ Config.startMarker ∧ q = r.setEvent .none) ∨
       (r.rxState = .body ∧ 1 ≤ r.rxIdx.val ∧ r.rxIdx.val ≤ 5 ∧ q = r.pushBody b) ∨
       (r.rxState = .body ∧ r.rxIdx.val = 6 ∧ q = r.storeChk b) ∨
       (r.rxState = .endMark ∧ r.rxIdx.val = 7 ∧ b = Config.endMarker ∧ r.rxAcc = r.rxBuf[6] ∧
          q = ((r.loadSlots (decodeParams r.rxBuf)).countGood).toSeek .accept) ∨
       (r.rxState = .endMark ∧ r.rxIdx.val = 7 ∧ b = Config.endMarker ∧ r.rxAcc ≠ r.rxBuf[6] ∧
          q = r.countChk.toSeek .checksumErr) ∨
       (r.rxState = .endMark ∧ r.rxIdx.val = 7 ∧ b ≠ Config.endMarker ∧
          q = r.countFrm.toSeek .framingErr))) := by
  cases x with
  | none => exact .inl ⟨rfl, by simpa [rxAfter] using h.symm⟩
  | some b =>
    refine .inr ⟨b, rfl, ?_⟩
    simp only [rxAfter] at h
    cases hs : r.rxState <;> simp only [hs] at h <;> repeat' split at h
    all_goals simp_all [eq_comm]

end Sys2Proof.Machine
end

