-- ==== Sys2Proof/Laws/PerInstr.lean ====
section
/-! SUPPORT. The per-instruction family `WordStandsOnItsPort`: the bytes of an instruction's word have the length of a word
of its port and are read back onto the wires that carry it (layout: log 4). One lemma per constructor. -/

/-- The word of an instruction is a word of its own port, and carries the instruction's wires. -/
def Sys2Proof.Laws.WordStandsOnItsPort.Statement (i : Sys2Proof.Instr) : Prop :=
  (Sys2Proof.encode i).length = Sys2Proof.portLength i.port ∧
    Sys2Proof.portOpOfBytes i.port (Sys2Proof.encode i) = .ok (Sys2Proof.encodeOp i)

namespace Sys2Proof.Laws

/-- The bytes of a transmit request are read back as the request. -/
theorem request_reads_back (r : TxRequest) : portOpOfBytes .transmit (bytesOfPortOp (.tx r)) = .ok (.tx r) := by
  simp only [bytesOfPortOp, portOpOfBytes, if_true, join16_lo8_hi8]

/-- The bytes of a command are read back as the command. -/
theorem command_reads_back (c : PidCommand) : portOpOfBytes .command (bytesOfPortOp (.cmd c)) = .ok (.cmd c) := by
  have h : (c.op.setWidth 8).toNat < 16 := by
    rw [BitVec.toNat_setWidth]
    have := c.op.isLt
    omega
  simp only [bytesOfPortOp, portOpOfBytes, if_pos h, join32_byteOf]
  simp

theorem WordStandsOnItsPort.rxSeekStart : WordStandsOnItsPort.Statement .rxSeekStart :=
  ⟨rfl, rfl⟩

theorem WordStandsOnItsPort.rxSeekDiscard (b : Byte) : WordStandsOnItsPort.Statement (.rxSeekDiscard b) :=
  ⟨rfl, rfl⟩

theorem WordStandsOnItsPort.rxBodySum (b : Byte) : WordStandsOnItsPort.Statement (.rxBodySum b) :=
  ⟨rfl, rfl⟩

theorem WordStandsOnItsPort.rxBodyChk (b : Byte) : WordStandsOnItsPort.Statement (.rxBodyChk b) :=
  ⟨rfl, rfl⟩

theorem WordStandsOnItsPort.rxEndAccept : WordStandsOnItsPort.Statement .rxEndAccept :=
  ⟨rfl, rfl⟩

theorem WordStandsOnItsPort.rxEndChkerr : WordStandsOnItsPort.Statement .rxEndChkerr :=
  ⟨rfl, rfl⟩

theorem WordStandsOnItsPort.rxEndFramerr (b : Byte) : WordStandsOnItsPort.Statement (.rxEndFramerr b) :=
  ⟨rfl, rfl⟩

theorem WordStandsOnItsPort.txEncode (steer err tgt : Half) : WordStandsOnItsPort.Statement (.txEncode steer err tgt) :=
  ⟨rfl, request_reads_back _⟩

theorem WordStandsOnItsPort.pidNop : WordStandsOnItsPort.Statement .pidNop :=
  ⟨rfl, command_reads_back _⟩

theorem WordStandsOnItsPort.pidReset (now : Word) : WordStandsOnItsPort.Statement (.pidReset now) :=
  ⟨rfl, command_reads_back _⟩

theorem WordStandsOnItsPort.pidUpdate (tgt now : Word) : WordStandsOnItsPort.Statement (.pidUpdate tgt now) :=
  ⟨rfl, command_reads_back _⟩

theorem WordStandsOnItsPort.pidWrKp (v : Word) : WordStandsOnItsPort.Statement (.pidWrKp v) :=
  ⟨rfl, command_reads_back _⟩

theorem WordStandsOnItsPort.pidWrKi (v : Word) : WordStandsOnItsPort.Statement (.pidWrKi v) :=
  ⟨rfl, command_reads_back _⟩

theorem WordStandsOnItsPort.pidWrKd (v : Word) : WordStandsOnItsPort.Statement (.pidWrKd v) :=
  ⟨rfl, command_reads_back _⟩

theorem WordStandsOnItsPort.pidWrMaxi (v : Word) : WordStandsOnItsPort.Statement (.pidWrMaxi v) :=
  ⟨rfl, command_reads_back _⟩

theorem WordStandsOnItsPort.pidWrDir (v : Word) : WordStandsOnItsPort.Statement (.pidWrDir v) :=
  ⟨rfl, command_reads_back _⟩

theorem WordStandsOnItsPort.pidWrSgain (v : Word) : WordStandsOnItsPort.Statement (.pidWrSgain v) :=
  ⟨rfl, command_reads_back _⟩

theorem WordStandsOnItsPort.pidReserved9 : WordStandsOnItsPort.Statement .pidReserved9 :=
  ⟨rfl, command_reads_back _⟩

theorem WordStandsOnItsPort.pidReservedAB (low : BitVec 1) : WordStandsOnItsPort.Statement (.pidReservedAB low) :=
  ⟨rfl, command_reads_back _⟩

theorem WordStandsOnItsPort.pidReservedCF (low : BitVec 2) : WordStandsOnItsPort.Statement (.pidReservedCF low) :=
  ⟨rfl, command_reads_back _⟩

end Sys2Proof.Laws
end

