-- ==== Sys2Proof/Tests/Slice0.lean ====
section
/-! SUPPORT. The model's own tests: ill-formed terms refused, words written out from spec/ decoded, single steps against
the vectors of 95_test_vectors, and, for every obligation with hypotheses, a witness that they can be met together. -/

namespace Sys2Proof.Tests

open Sys2Proof Sys2Proof.Machine

/-! ### Helpers -/

/-- A receive side holding the body of vector RX-1 (05 34 12 FF FF, sum 49), with the rest as given. -/
def parserAt (st : RxState) (idx : Fin 8) (acc chk : Byte) : RxUnit :=
  { RxUnit.reset with rxState := st, rxIdx := idx, rxAcc := acc,
                      rxBuf := #v[0xAA, 0x05, 0x34, 0x12, 0xFF, 0xFF, chk, 0x00] }

/-- A PID unit after a RESET at time 0 with these settings. -/
def pidWith (kp ki kd maxi : Word) (dirNeg : Bool) : PidUnit :=
  { kp := kp, ki := ki, kd := kd, maxi := maxi, dirNeg := dirNeg, sgain := 0, iAcc := 0, prevErr := 0, prevTime := 0,
    servoOut := 0, tbValid := true, dtZero := false, cmdStatus := .ok }

/-- The settings of vector PID-1: 0.8, 0, 0.4, bound 5, direction −1. -/
def pidOne : PidUnit := pidWith 52429 0 26214 327680 true

/-- A machine with this receive side and these inputs. -/
def machine (r : RxUnit) (xs : List StepInput) : State := { rx := r, tx := .reset, pid := pidOne, inputs := xs }

/-- A machine with this PID unit. -/
def controller (p : PidUnit) (xs : List StepInput) : State := { rx := .reset, tx := .reset, pid := p, inputs := xs }

/-- What `f` reads of the next state, none where the machine stops. -/
def seen {α : Type} (o : Result) (f : State → α) : Option α :=
  match o with
  | .next t => some (f t)
  | .fault _ => none
  | .refused _ => none

/-- The three telemetry counters. -/
def counters (s : State) : Word × Word × Word := (s.rx.goodCnt, s.rx.frmCnt, s.rx.chkCnt)

/-! ### WellFormed refuses the ill-formed terms (R133, R139) -/

theorem test_wf_discard_of_the_marker_refused : Instr.wellFormed (.rxSeekDiscard 0xAA) = false := by decide
theorem test_wf_framing_error_on_the_marker_refused : Instr.wellFormed (.rxEndFramerr 0xA8) = false := by decide
theorem test_wf_discard_of_the_end_marker : Instr.wellFormed (.rxSeekDiscard 0xA8) = true := by decide
theorem test_wf_framing_error_on_the_start_marker : Instr.wellFormed (.rxEndFramerr 0xAA) = true := by decide

/-! ### Decoding: one word written out for every row (R84, R131; layout log 4) -/

theorem test_decode_seek_start : decodeBytes .receive ⟨.seek, 0, 0, 0⟩ [0xAA] = .ok .rxSeekStart := by decide
theorem test_decode_seek_discard : decodeBytes .receive ⟨.seek, 0, 0, 0⟩ [0xA8] = .ok (.rxSeekDiscard 0xA8) := by decide
theorem test_decode_body_sum_first : decodeBytes .receive ⟨.body, 1, 0, 0⟩ [0xAA] = .ok (.rxBodySum 0xAA) := by decide
theorem test_decode_body_sum_last : decodeBytes .receive ⟨.body, 5, 0, 0⟩ [0xA8] = .ok (.rxBodySum 0xA8) := by decide
theorem test_decode_body_chk : decodeBytes .receive ⟨.body, 6, 0, 0⟩ [0x49] = .ok (.rxBodyChk 0x49) := by decide
theorem test_decode_end_accept : decodeBytes .receive ⟨.endMark, 7, 0x49, 0x49⟩ [0xA8] = .ok .rxEndAccept := by decide
theorem test_decode_end_chkerr : decodeBytes .receive ⟨.endMark, 7, 0x49, 0x48⟩ [0xA8] = .ok .rxEndChkerr := by decide
theorem test_decode_end_framerr :
    decodeBytes .receive ⟨.endMark, 7, 0x49, 0x48⟩ [0x00] = .ok (.rxEndFramerr 0x00) := by decide
theorem test_decode_unreachable : decodeBytes .receive ⟨.body, 0, 0, 0⟩ [0x00] = .error .parserUnreachable := by decide
theorem test_decode_tx_encode :
    decodeBytes .transmit ⟨.seek, 0, 0, 0⟩ [1, 0x0C, 0x00, 0xFD, 0xFF, 0x07, 0x00] = .ok (.txEncode 12 (-3) 7) := by
  decide
theorem test_decode_tx_without_request :
    decodeBytes .transmit ⟨.seek, 0, 0, 0⟩ [0, 0, 0, 0, 0, 0, 0] = .error .noRequest := by decide
theorem test_decode_pid_nop : decodeBytes .command ⟨.seek, 0, 0, 0⟩ [0x0, 1, 2, 3, 4, 5, 6, 7, 8] = .ok .pidNop := by decide
/-- cmd_data is ignored (R162). -/
theorem test_decode_pid_reset :
    decodeBytes .command ⟨.seek, 0, 0, 0⟩ [0x1, 9, 8, 7, 6, 0xF4, 0x01, 0, 0] = .ok (.pidReset 500) := by decide
theorem test_decode_pid_update :
    decodeBytes .command ⟨.seek, 0, 0, 0⟩ [0x2, 0x00, 0x00, 0xF6, 0xFF, 20, 0, 0, 0] = .ok (.pidUpdate (-655360) 20) := by
  decide
/-- cmd_now is ignored (R164). -/
theorem test_decode_pid_wr_kp :
    decodeBytes .command ⟨.seek, 0, 0, 0⟩ [0x3, 0xCD, 0xCC, 0, 0, 9, 8, 7, 6] = .ok (.pidWrKp 52429) := by decide
theorem test_decode_pid_wr_ki :
    decodeBytes .command ⟨.seek, 0, 0, 0⟩ [0x4, 0, 0, 1, 0, 0, 0, 0, 0] = .ok (.pidWrKi 65536) := by decide
theorem test_decode_pid_wr_kd :
    decodeBytes .command ⟨.seek, 0, 0, 0⟩ [0x5, 0x66, 0x66, 0, 0, 0, 0, 0, 0] = .ok (.pidWrKd 26214) := by decide
theorem test_decode_pid_wr_maxi :
    decodeBytes .command ⟨.seek, 0, 0, 0⟩ [0x6, 0xFF, 0xFF, 0xFF, 0xFF, 0, 0, 0, 0] = .ok (.pidWrMaxi (-1)) := by decide
theorem test_decode_pid_wr_dir :
    decodeBytes .command ⟨.seek, 0, 0, 0⟩ [0x7, 1, 0, 0, 0, 0, 0, 0, 0] = .ok (.pidWrDir 1) := by decide
theorem test_decode_pid_wr_sgain :
    decodeBytes .command ⟨.seek, 0, 0, 0⟩ [0x8, 0, 0, 2, 0, 0, 0, 0, 0] = .ok (.pidWrSgain 131072) := by decide
theorem test_decode_pid_reserved_9 :
    decodeBytes .command ⟨.seek, 0, 0, 0⟩ [0x9, 0, 0, 0, 0, 0, 0, 0, 0] = .ok .pidReserved9 := by decide
theorem test_decode_pid_reserved_ab :
    decodeBytes .command ⟨.seek, 0, 0, 0⟩ [0xB, 0, 0, 0, 0, 0, 0, 0, 0] = .ok (.pidReservedAB 1) := by decide
theorem test_decode_pid_reserved_cf :
    decodeBytes .command ⟨.seek, 0, 0, 0⟩ [0xE, 0, 0, 0, 0, 0, 0, 0, 0] = .ok (.pidReservedCF 2) := by decide
theorem test_decode_no_such_wire :
    decodeBytes .command ⟨.seek, 0, 0, 0⟩ [0x10, 0, 0, 0, 0, 0, 0, 0, 0] = .error .noSuchWire := by decide

/-! ### Words of the opcode table (log 5) and the word the next step runs (log 2) -/

theorem test_table_word_start : decodeTableWord 8 0xAA = some .rxSeekStart := by decide
theorem test_table_word_update : decodeTableWord 8 0x2 = some (.pidUpdate 0 0) := by decide
theorem test_table_word_request : decodeTableWord 8 0x1 = some (.txEncode 0 0 0) := by decide
theorem test_table_word_rows : decodeTableWord 8 0x3E = some (.rxBodySum 0x3E) ∧
    decodeTableWord 8 0x40 = some (.rxBodyChk 0x40) ∧ decodeTableWord 8 0x80 = some (.rxEndFramerr 0x80) ∧
    decodeTableWord 8 0xA8 = some .rxEndAccept ∧ decodeTableWord 8 0x11 = some (.rxSeekDiscard 0x11) := by decide
theorem test_fetch_start : seen (step (State.reset.withFetchWord 8 0xAA)) (fun t => (t.rx.rxState, t.rx.rxIdx)) =
    some (.body, 1) := by decide
theorem test_fetch_accept : seen (step (State.reset.withFetchWord 8 0xA8)) (fun t => t.rx.rxEvent) = some .accept := by
  decide
theorem test_fetch_framing_error : seen (step (State.reset.withFetchWord 8 0x80)) (fun t => t.rx.rxEvent) =
    some .framingErr := by decide
theorem test_fetch_reserved : seen (step (State.reset.withFetchWord 8 0x9)) (fun t => t.pid.cmdStatus) =
    some .illegalOp := by decide

/-- R47: the read ports of an accepted frame (vector RX-1), the coded and one-bit outputs among them. -/
theorem test_read_ports :
    (let p := (machine { parserAt .seek 0 0 0 with rxEvent := .accept, rxOpcode := 5 } []).readPorts
     (p.rxEvent, p.rxOpcode, p.txValid, p.dirNeg, p.tbValid, p.dtZero, p.cmdStatus)) = (1, 5, 0, 1, 1, 0, 0) := by decide

/-! ### Single steps of the receive rows -/

/-- Vector RX-1, byte 1. -/
theorem test_seek_start : seen (exec .rxSeekStart (machine .reset [])) (fun t => (t.rx.rxState, t.rx.rxIdx, t.rx.rxBuf[0])) =
    some (.body, 1, 0xAA) := by decide
/-- Vector RX-11, byte 3: 55 in SEEK. -/
theorem test_seek_discard : seen (exec (.rxSeekDiscard 0x55) (machine .reset [])) id = some (machine .reset []) := by decide
/-- Vector RX-1, byte 5: 4B + FF is 4A modulo 256. -/
theorem test_body_sum_wraps : seen (exec (.rxBodySum 0xFF) (machine (parserAt .body 4 0x4B 0) []))
    (fun t => (t.rx.rxAcc, t.rx.rxIdx)) = some (0x4A, 5) := by decide
/-- Vector RX-1, byte 7: the checksum is not summed. -/
theorem test_body_chk : seen (exec (.rxBodyChk 0x49) (machine (parserAt .body 6 0x49 0) []))
    (fun t => (t.rx.rxAcc, t.rx.rxBuf[6], t.rx.rxState)) = some (0x49, 0x49, .endMark) := by decide
/-- Vector RX-1, byte 8. -/
theorem test_end_accept : seen (exec .rxEndAccept (machine (parserAt .endMark 7 0x49 0x49) []))
    (fun t => (t.rx.rxOpcode, t.rx.rxInt1, t.rx.rxInt2, t.rx.rxFbits, counters t)) =
    some (0x05, 4660, -1, 0xFFFF1234, 1, 0, 0) := by decide
/-- R27: GOOD_CNT saturates. -/
theorem test_end_accept_saturates :
    seen (exec .rxEndAccept (machine { parserAt .endMark 7 0x49 0x49 with goodCnt := 0xFFFFFFFF } [])) counters =
    some (0xFFFFFFFF, 0, 0) := by decide
/-- Vector RX-5, byte 8. -/
theorem test_end_chkerr : seen (exec .rxEndChkerr (machine (parserAt .endMark 7 0x49 0x48) []))
    (fun t => (t.rx.rxEvent, t.rx.rxOpcode, counters t)) = some (.checksumErr, 0, 0, 0, 1) := by decide
/-- Vector RX-6, byte 8: 00 where the end marker is required. -/
theorem test_end_framerr : seen (exec (.rxEndFramerr 0x00) (machine (parserAt .endMark 7 0x49 0x49) []))
    (fun t => (t.rx.rxEvent, t.rx.rxState, counters t)) = some (.framingErr, .seek, 0, 1, 0) := by decide
/-- Vector RX-7, byte 8: AA there starts no frame. -/
theorem test_end_framerr_start_marker : seen (exec (.rxEndFramerr 0xAA) (machine (parserAt .endMark 7 1 1) []))
    (fun t => (t.rx.rxEvent, t.rx.rxState, t.rx.rxIdx)) = some (.framingErr, .seek, 0) := by decide

/-! ### The transmit row and the codec -/

/-- Vector TX-1. -/
theorem test_tx_encode : seen (exec (.txEncode 12 (-3) 7) (machine .reset [])) (fun t => (t.tx.txFrame, t.tx.txValid)) =
    some (#v[0xAA, 0x01, 0x0C, 0x00, 0xFD, 0xFF, 0x07, 0x00, 0x10, 0xA8], true) := by decide
/-- R111: no request, no frame. -/
theorem test_tx_idle : seen (step (machine .reset [])) (fun t => t.tx) = some TxUnit.reset := by decide
/-- Vector DEC-2's frame, from its float bits. -/
theorem test_encode_command_float : encodeCommandF 0x10 0x3F4CCCCD = #v[0xAA, 0x10, 0xCD, 0xCC, 0x4C, 0x3F, 0x34, 0xA8] := by
  decide

/-! ### Single steps of the PID commands -/

/-- Vector PID-26. -/
theorem test_pid_nop : seen (exec .pidNop (controller pidOne [])) id = some (controller pidOne []) := by decide
/-- Vector PID-27. -/
theorem test_pid_reset :
    seen (exec (.pidReset 500)
      (controller { pidOne with iAcc := 3, prevErr := 4, servoOut := 5, dtZero := true, tbValid := false } [])) id =
    some (controller { pidOne with prevTime := 500 } []) := by decide
/-- Vector PID-1. -/
theorem test_pid_update : seen (exec (.pidUpdate 655360 20) (controller pidOne [])) id =
    some (controller { pidOne with prevErr := -655360, prevTime := 20, servoOut := 537397 } []) := by decide
/-- Vector PID-8, second UPDATE: truncation toward zero by a divisor that is no power of two. -/
theorem test_pid_update_truncates :
    seen (exec (.pidUpdate 65536 103) (controller { pidWith 0 0 65536 0 false with prevErr := 65536, prevTime := 100 } []))
      (fun t => t.pid.servoOut) = some (-43690) := by decide
theorem test_pid_wr_kp : seen (exec (.pidWrKp 7) (controller pidOne [])) id = some (controller { pidOne with kp := 7 } []) := by
  decide
theorem test_pid_wr_ki : seen (exec (.pidWrKi 7) (controller pidOne [])) id = some (controller { pidOne with ki := 7 } []) := by
  decide
theorem test_pid_wr_kd : seen (exec (.pidWrKd 7) (controller pidOne [])) id = some (controller { pidOne with kd := 7 } []) := by
  decide
/-- Vector PID-16's second WR_MAXI: I_ACC is not re-clamped. -/
theorem test_pid_wr_maxi :
    seen (exec (.pidWrMaxi 65536) (controller { pidOne with iAcc := 262144 } [])) (fun t => (t.pid.maxi, t.pid.iAcc)) =
    some (65536, 262144) := by decide
/-- Vector PID-23. -/
theorem test_pid_wr_maxi_negative : seen (exec (.pidWrMaxi (-1)) (controller pidOne [])) id =
    some (controller { pidOne with cmdStatus := .outOfRange } []) := by decide
theorem test_pid_wr_dir : seen (exec (.pidWrDir 0) (controller pidOne [])) id = some (controller { pidOne with dirNeg := false } []) := by
  decide
/-- Vector PID-24. -/
theorem test_pid_wr_dir_two : seen (exec (.pidWrDir 2) (controller pidOne [])) id =
    some (controller { pidOne with cmdStatus := .outOfRange } []) := by decide
theorem test_pid_wr_sgain : seen (exec (.pidWrSgain 131072) (controller pidOne [])) id =
    some (controller { pidOne with sgain := 131072 } []) := by decide
/-- R170. -/
theorem test_pid_reserved_9 : seen (exec .pidReserved9 (controller pidOne [])) id =
    some (controller { pidOne with cmdStatus := .illegalOp } []) := by decide
/-- R170. -/
theorem test_pid_reserved_ab : seen (exec (.pidReservedAB 0) (controller pidOne [])) id =
    some (controller { pidOne with cmdStatus := .illegalOp } []) := by decide
/-- Vector PID-25: cmd_op F. -/
theorem test_pid_reserved_cf : seen (exec (.pidReservedCF 3) (controller pidOne [])) id =
    some (controller { pidOne with cmdStatus := .illegalOp } []) := by decide

/-! ### Witnesses: the hypotheses of each obligation can be met together -/

theorem witness_decode_of_encode :
    Instr.wellFormed .rxEndChkerr = true ∧ RxView.selects ⟨.endMark, 7, 1, 2⟩ .rxEndChkerr = true := by decide
theorem witness_decoded_bytes :
    decodeBytes .command ⟨.seek, 0, 0, 0⟩ [0xF, 9, 0, 0, 0, 0, 0, 0, 0] = .ok (.pidReservedCF 3) ∧
      decodeBytes .receive ⟨.body, 5, 0, 0⟩ [0xA8] = .ok (.rxBodySum 0xA8) := by decide
theorem witness_one_row_seek : (RxUnit.reset).indexed := rfl
theorem witness_one_row_body : (parserAt .body 1 0 0).indexed ∧ (parserAt .body 6 0x49 0).indexed :=
  ⟨show 1 ≤ 1 ∧ 1 ≤ 6 by decide, show 1 ≤ 6 ∧ 6 ≤ 6 by decide⟩
theorem witness_one_row_end : (parserAt .endMark 7 0x49 0).indexed ∧
    Instr.wellFormed (.rxEndFramerr 0xAA) = true ∧ encodeOp (.rxEndFramerr 0xAA) = .rx 0xAA ∧
    (parserAt .endMark 7 0x49 0).view.selects (.rxEndFramerr 0xAA) = true := ⟨rfl, by decide⟩
theorem witness_step_runs :
    (machine .reset [inputOfOp (.rx 0xAA)]).inputs = inputOfOp (.rx 0xAA) :: [] ∧
      decodeOp RxUnit.reset.view (.rx 0xAA) = .ok .rxSeekStart ∧
      decodeOp RxUnit.reset.view (.tx ⟨1, 2, 3⟩) = .ok (.txEncode 1 2 3) ∧
      decodeOp RxUnit.reset.view (.cmd ⟨2, 1, 5⟩) = .ok (.pidUpdate 1 5) := by decide
theorem witness_step_runs_all :
    (machine .reset [⟨false, some 0xAA, some ⟨1, 2, 3⟩, some ⟨2, 1, 5⟩⟩]).inputs =
      { rst := false, rx := some 0xAA, tx := some ⟨1, 2, 3⟩, cmd := some ⟨2, 1, 5⟩ } :: [] ∧
      decodeRx RxUnit.reset.view 0xAA = .ok .rxSeekStart := by decide
theorem witness_commute : Instr.port .rxSeekStart ≠ Instr.port (.txEncode 1 2 3) ∧
    Instr.port (.pidUpdate 1 2) ≠ Instr.port (.txEncode 1 2 3) := by decide
theorem witness_block_reset :
    (machine .reset [⟨true, some 0xAA, none, none⟩]).inputs = ⟨true, some 0xAA, none, none⟩ :: [] ∧
      StepInput.rst ⟨true, some 0xAA, none, none⟩ = true := by decide
/-- Every premise of every clause holds where nothing is offered. -/
theorem witness_idle_ports : (parserAt .body 3 0x39 0).indexed ∧
    (machine (parserAt .body 3 0x39 0) []).nextInput = StepInput.idle :=
  ⟨show 1 ≤ 3 ∧ 3 ≤ 6 by decide, rfl⟩
theorem witness_no_timeout : ∀ x ∈ (machine (parserAt .body 3 0x39 0) (cmdLine 1 0 0 ++ txLine 1 2 3)).inputs.take 2,
    x.rst = false ∧ x.rx = none := by decide
theorem witness_unreachable_pairs :
    let s := machine (parserAt .body 0 0 0) (rxLine [0xAA])
    let s' := machine (parserAt .endMark 0 0 0) (rxLine [0xAA])
    let x : StepInput := ⟨false, some 0xAA, none, none⟩
    s.inputs = x :: [] ∧ s'.inputs = x :: [] ∧ x.rst = false ∧ x.rx = some 0xAA ∧
      s.rx.rxState = .body ∧ s.rx.rxIdx.val = 0 ∧ s'.rx.rxState = .endMark ∧ s'.rx.rxIdx.val ≠ 7 := by decide
theorem witness_unreachable_last_pairs :
    (parserAt .body 7 0 0).rxIdx.val = 7 ∧ (parserAt .endMark 6 0 0).rxIdx.val ≠ 7 := by decide
theorem witness_unselected_row : Instr.port .rxSeekStart = .receive ∧
    (Instr.wellFormed .rxSeekStart && (parserAt .body 1 0 0).view.selects .rxSeekStart) = false := by decide
/-- A state inside a frame that satisfies the invariant, and a step that goes on from it. -/
theorem witness_invariant :
    let s := machine { parserAt .body 3 0x39 0 with rxFbits := 0 } (rxLine [0x12])
    s.Inv ∧ ∃ t, step s = .next t := by
  refine ⟨⟨⟨?_, ?_, ⟨fun _ => rfl, rfl⟩, ?_⟩, ⟨.inl rfl, fun h => by cases h⟩, ?_⟩, _, rfl⟩
  · show 1 ≤ 3 ∧ 3 ≤ 6; decide
  · show (0x39 : Byte) = cks [0xAA, 0x05, 0x34, 0x12, 0xFF, 0xFF, 0, 0] 1 2; decide
  · unfold RxUnit.slotsAgree; decide
  · unfold PidUnit.Inv; decide
/-- The integrator at its bound, before an UPDATE. -/
theorem witness_integrator :
    let s := controller { pidOne with iAcc := 327680 } (cmdLine 2 0 5)
    0 ≤ s.pid.maxi.toInt ∧ -327680 ≤ s.pid.iAcc.toInt ∧ s.pid.iAcc.toInt ≤ 327680 ∧ ∃ t, step s = .next t :=
  ⟨by decide, by decide, by decide, _, rfl⟩
/-- Every premise of every clause holds where nothing is offered. -/
theorem witness_writers :
    let s := machine .reset []
    step s = .next s ∧ s.nextInput.rst = false ∧ (∀ n, ¬ s.commands n) ∧ s.nextInput.cmd = none ∧
      s.nextInput.tx = none ∧ s.rx.rxEvent = .none :=
  ⟨rfl, rfl, fun _ ⟨_, h, _⟩ => (by cases h), rfl, rfl, rfl⟩
theorem witness_units :
    let s := machine .reset (bothLines (rxLine [0xAA]) (cmdLine 1 0 9))
    let s' := machine .reset (rxLine [0xAA])
    (∃ t, step s = .next t) ∧ (∃ t, step s' = .next t) ∧ s.nextInput.rst = s'.nextInput.rst ∧ s.rx = s'.rx ∧ s.tx = s'.tx ∧
      s.nextInput.rx = s'.nextInput.rx ∧ s.nextInput.tx = s'.nextInput.tx :=
  ⟨⟨_, rfl⟩, ⟨_, rfl⟩, by decide⟩
theorem witness_units_pid :
    let s := machine .reset (bothLines (rxLine [0xAA]) (cmdLine 1 0 9))
    let s' := machine (parserAt .body 1 0 0) (cmdLine 1 0 9)
    (∃ t, step s = .next t) ∧ (∃ t, step s' = .next t) ∧ s.nextInput.rst = s'.nextInput.rst ∧ s.pid = s'.pid ∧
      s.nextInput.cmd = s'.nextInput.cmd :=
  ⟨⟨_, rfl⟩, ⟨_, rfl⟩, by decide⟩
/-- Two states that differ in SGAIN and the status outputs alone, offered `l`. -/
def statusPair (l : List StepInput) : State × State :=
  (controller pidOne l,
    controller { pidOne with sgain := 9, cmdStatus := .illegalOp, dtZero := true, tbValid := false } l)

theorem statusPair_agree (l : List StepInput) : (statusPair l).1.agreeButOutputs (statusPair l).2 :=
  ⟨⟨rfl, rfl, rfl, rfl⟩, ⟨rfl, rfl, rfl, rfl⟩, ⟨rfl, rfl, rfl⟩, rfl, rfl, rfl, rfl, rfl, rfl, rfl, rfl, rfl, rfl, rfl⟩

/-- The premises of each clause of the status-bit statement: RESET, UPDATE, WR_SGAIN and the block reset. -/
theorem witness_status_bits :
    let s := (statusPair (cmdLine 0x1 0 1)).1
    let u := (statusPair (cmdLine 0x2 1 1)).1
    let g := (statusPair (cmdLine 0x8 1 1)).1
    let r := (statusPair resetLine).1
    (s.agreeButOutputs (statusPair (cmdLine 0x1 0 1)).2 ∧ (∃ t, step s = .next t) ∧ s.nextInput.cmd ≠ none ∧
        s.commands 0x1) ∧
      (u.agreeButOutputs (statusPair (cmdLine 0x2 1 1)).2 ∧ (∃ t, step u = .next t) ∧ u.commands 0x2) ∧
      (g.agreeButOutputs (statusPair (cmdLine 0x8 1 1)).2 ∧ (∃ t, step g = .next t) ∧ g.commands 0x8) ∧
      (r.agreeButOutputs (statusPair resetLine).2 ∧ (∃ t, step r = .next t) ∧ r.nextInput.rst = true) :=
  ⟨⟨statusPair_agree _, ⟨_, rfl⟩, by decide, _, rfl, rfl⟩, ⟨statusPair_agree _, ⟨_, rfl⟩, _, rfl, rfl⟩,
    ⟨statusPair_agree _, ⟨_, rfl⟩, _, rfl, rfl⟩, ⟨statusPair_agree _, ⟨_, rfl⟩, rfl⟩⟩
theorem witness_counters :
    let s := machine (parserAt .endMark 7 0x49 0x49) (rxLine [0xA8])
    (∃ t, step s = .next t) ∧ s.nextInput.rst = false := ⟨⟨_, rfl⟩, rfl⟩
/-- SEEK, with a byte that is not the marker, for R132 and R133. -/
theorem witness_seek : (machine .reset []).rx.rxState = .seek ∧ (0xAB : Byte) ≠ 0xAA := by decide
/-- R135 at both ends of its range. -/
theorem witness_body :
    (machine (parserAt .body 1 0 0) []).rx.rxState = .body ∧ (machine (parserAt .body 1 0 0) []).rx.rxIdx.val = 1 ∧
      (machine (parserAt .body 5 0 0) []).rx.rxState = .body ∧ (machine (parserAt .body 5 0 0) []).rx.rxIdx.val = 5 := by
  decide
theorem witness_body_chk :
    (machine (parserAt .body 6 0 0) []).rx.rxState = .body ∧ (machine (parserAt .body 6 0 0) []).rx.rxIdx.val = 6 := by
  decide
/-- END with a matching and with a mismatching checksum, for R137, R138, R139 and R140. -/
theorem witness_end :
    let s := machine (parserAt .endMark 7 0x49 0x49) (rxLine [0xA8] ++ [])
    let s' := machine (parserAt .endMark 7 0x49 0x48) (rxLine [0xA9] ++ [])
    s.rx.rxState = .endMark ∧ s.rx.rxIdx.val = 7 ∧ s.rx.rxAcc = s.rx.rxBuf[6] ∧ s.inputs = rxLine [0xA8] ++ [] ∧
      s'.rx.rxState = .endMark ∧ s'.rx.rxIdx.val = 7 ∧ s'.rx.rxAcc ≠ s'.rx.rxBuf[6] ∧ s'.inputs = rxLine [0xA9] ++ [] ∧
      (0xA9 : Byte) ≠ 0xA8 := by decide
theorem witness_frame_boundary :
    (machine .reset (rxLine (0xAA :: [1, 2, 3, 4, 5, 6, 7]) ++ [])).inputs = rxLine (0xAA :: [1, 2, 3, 4, 5, 6, 7]) ++ [] ∧
      (machine .reset []).rx.rxState = .seek ∧ ([1, 2, 3, 4, 5, 6, 7] : List Byte).length = 7 := by decide
theorem witness_encoded_command :
    (machine .reset (frameLine 5 4660 (-1) ++ [])).inputs = frameLine 5 4660 (-1) ++ [] ∧
      (machine .reset []).rx.rxState = .seek := by decide
/-- R142 at both ends of its range of offsets (vector RX-4 is offset 2). -/
theorem witness_corruption : (machine .reset []).rx.rxState = .seek ∧
    1 ≤ (1 : Fin 8).val ∧ (5 : Fin 8).val ≤ 5 ∧ (0x04 : Byte) ≠ (encodeCommand 5 4660 (-1))[(1 : Fin 8)] ∧
    (0x00 : Byte) ≠ (encodeCommand 5 4660 (-1))[(5 : Fin 8)] := by decide
theorem witness_frame_after_end :
    let s := machine (parserAt .endMark 7 0x49 0x49) (rxLine [0xAA] ++ frameLine 5 1 2 ++ [])
    s.rx.rxState = .endMark ∧ s.rx.rxIdx.val = 7 ∧ s.inputs = rxLine [0xAA] ++ frameLine 5 1 2 ++ [] := by decide
/-- The exceptional telemetry frame of log 15: the first eight bytes of encode_telemetry(12, -3, 0xA809) are the inbound
frame that program P4 of 95_test_vectors feeds in its steps 2 to 9, where the spec gives ACCEPT. -/
theorem witness_telemetry_frame :
    let l := rxLine ((encodeTelemetry 12 (-3) 0xA809).toList.take 8)
    (machine .reset (l ++ [])).inputs = l ++ [] ∧ (machine .reset (l ++ [])).rx.rxState = .seek ∧
      (encodeTelemetry 12 (-3) 0xA809).toList.take 8 = [0xAA, 0x01, 0x0C, 0x00, 0xFD, 0xFF, 0x09, 0xA8] ∧
      encodeCommand 0x01 12 (-3) = #v[0xAA, 0x01, 0x0C, 0x00, 0xFD, 0xFF, 0x09, 0xA8] := by decide
theorem witness_slots : (machine .reset (frameLine 5 1 2)).rx.rxState = .seek ∧
    ∀ x ∈ (machine .reset (frameLine 5 1 2)).inputs.take 7, x.rst = false := by decide
theorem witness_checksum : 1 ≤ 1 ∧ 1 ≤ 3 ∧ 1 < ([0xAA, 1, 2, 3] : List Byte).length ∧
    (2 : Byte) ≠ ([0xAA, 1, 2, 3] : List Byte)[1] := by decide
theorem witness_reserved_ops : 9 ≤ (⟨9, 0, 0⟩ : PidCommand).op.toNat ∧ 9 ≤ (⟨15, 0, 0⟩ : PidCommand).op.toNat := by decide
/-- MAXI at both ends of its range: the premise of R163, R171 and R172. -/
theorem witness_maxi : 0 ≤ (pidWith 1 1 1 0 false).maxi.toInt ∧ 0 ≤ (pidWith 1 1 1 0x7FFFFFFF false).maxi.toInt := by
  decide
theorem witness_zero_target :
    let s := controller pidOne (cmdLine 1 0 7 ++ updateLines (([20, 40, 40] : List Word).map fun n => (0, n)) ++ [])
    0 ≤ s.pid.maxi.toInt ∧
      s.inputs = cmdLine 0x1 0 7 ++ updateLines (([20, 40, 40] : List Word).map fun n => (0, n)) ++ [] := by decide
theorem witness_opposite_targets :
    let us : List (Word × Word) := [(655360, 20), (0x7FFFFFFF, 40)]
    let s := controller pidOne (cmdLine 1 0 7 ++ updateLines us ++ [])
    let s' := controller pidOne (cmdLine 1 0 7 ++ updateLines (us.map fun u => (-u.1, u.2)) ++ [])
    s.pid.sameSettings s'.pid ∧ 0 ≤ s.pid.maxi.toInt ∧ (∀ u ∈ us, u.1.toInt ≠ -2 ^ 31) ∧
      s.inputs = cmdLine 0x1 0 7 ++ updateLines us ++ [] ∧
      s'.inputs = cmdLine 0x1 0 7 ++ updateLines (us.map fun u => (-u.1, u.2)) ++ [] := by
  intro us s s'
  refine ⟨⟨rfl, rfl, rfl, rfl, rfl, rfl⟩, show (0 : Int) ≤ 327680 by decide, ?_, rfl, rfl⟩
  intro u hu
  simp only [us, List.mem_cons, List.not_mem_nil, or_false] at hu
  rcases hu with rfl | rfl <;> norm_num <;> decide
theorem witness_idempotent : Instr.pidWrMaxi (-1) ∈ [Instr.txEncode 1 2 3, .pidReset (-1), .pidWrKp (-1), .pidWrKi (-1),
    .pidWrKd (-1), .pidWrMaxi (-1), .pidWrDir (-1), .pidWrSgain (-1)] := by decide

end Sys2Proof.Tests
end

/-! ## Scope: how the operations of the three ports go together (R12, R71, R205)

A receive row reads and writes the receive side alone, so it commutes with every update of the other two units; the
instructions of the other ports are such updates, and so is the idle pulse of the transmit port. -/

namespace Sys2Proof.Machine

/-! ### Updates that leave the receive side alone -/

/-- The state after an update of the transmit side and one of the PID unit. -/
def State.mapOffRx (f : TxUnit → TxUnit) (g : PidUnit → PidUnit) (s : State) : State :=
  (s.withTx (f s.tx)).withPid (g s.pid)

@[simp] theorem State.mapOffRx_rx (f : TxUnit → TxUnit) (g : PidUnit → PidUnit) (s : State) :
    (s.mapOffRx f g).rx = s.rx := rfl

/-- A receive row is refused where its condition does not hold (log 6). -/
theorem whenSelected_of_not_selected {i : Instr} {s : State} (r : RxUnit)
    (h : (i.wellFormed && s.rx.view.selects i) = false) : whenSelected i s r = .refused .rowNotSelected := by
  rw [whenSelected, h]
  rfl

/-- A receive row commutes with an update of the other units, whether it is selected or refused. -/
theorem exec_receive_mapOffRx {i : Instr} (hi : i.port = .receive) (f : TxUnit → TxUnit) (g : PidUnit → PidUnit)
    (s : State) : exec i (s.mapOffRx f g) = andThen (exec i s) fun t => .next (t.mapOffRx f g) := by
  rw [exec_receive hi, exec_receive hi, State.mapOffRx_rx]
  cases hsel : i.wellFormed && s.rx.view.selects i with
  | true =>
    obtain ⟨hw, hs⟩ := Bool.and_eq_true_iff.1 hsel
    rw [whenSelected_of _ hw hs, whenSelected_of (s := s.mapOffRx f g) _ hw hs]
    rfl
  | false =>
    rw [whenSelected_of_not_selected _ hsel, whenSelected_of_not_selected (s := s.mapOffRx f g) _ hsel]
    rfl

/-! ### The instructions of the transmit and the command port are such updates -/

/-- What an instruction makes of the transmit side (the writes of R111). -/
def txEffect (i : Instr) (u : TxUnit) : TxUnit :=
  match i with
  | .txEncode st e tg => u.latch (encodeTelemetry st e tg)
  | _ => u

theorem txEffect_of_command {i : Instr} (h : i.port = .command) (u : TxUnit) : txEffect i u = u := by
  cases i with
  | txEncode st e tg => cases h
  | _ => rfl

/-- An instruction of the transmit or the command port always answers next (R200), the receive side untouched. -/
theorem exec_of_port_ne_receive {j : Instr} (hj : j.port ≠ .receive) (s : State) :
    exec j s = .next (s.mapOffRx (txEffect j) (pidEffect j)) := by
  cases hp : j.port with
  | receive => exact absurd hp hj
  | transmit =>
    obtain ⟨st, e, tg, rfl⟩ := eq_txEncode_of_port hp
    rfl
  | command =>
    rw [exec_command hp, State.mapOffRx, txEffect_of_command hp]
    rfl

/-- A receive row commutes with an instruction of any other port. -/
theorem exec_receive_comm {i j : Instr} (hi : i.port = .receive) (hj : j.port ≠ .receive) (s : State) :
    andThen (exec i s) (exec j) = andThen (exec j s) (exec i) := by
  have hexec : exec j = fun t => .next (t.mapOffRx (txEffect j) (pidEffect j)) :=
    funext (exec_of_port_ne_receive hj)
  rw [hexec, andThen_next, exec_receive_mapOffRx hi]

/-- TX.ENCODE commutes with a command: one writes the transmit side alone, the other the PID unit alone (R45). -/
theorem exec_transmit_comm {i j : Instr} (hi : i.port = .transmit) (hj : j.port = .command) (s : State) :
    andThen (exec i s) (exec j) = andThen (exec j s) (exec i) := by
  obtain ⟨st, e, tg, rfl⟩ := eq_txEncode_of_port hi
  simp only [exec_transmit, exec_command hj, andThen_next]
  rfl

/-- Settles O8: by the ports of the two instructions, the three unordered pairs each in both orders. -/
theorem operationsOfDifferentPortsCommute : Obligations.OperationsOfDifferentPortsCommute := by
  intro i j s hne
  cases hi : i.port with
  | receive => exact exec_receive_comm hi (hi ▸ hne.symm) s
  | transmit =>
    cases hj : j.port with
    | receive => exact (exec_receive_comm hj (hj ▸ hne) s).symm
    | transmit => exact absurd (hi.trans hj.symm) hne
    | command => exact exec_transmit_comm hi hj s
  | command =>
    cases hj : j.port with
    | receive => exact (exec_receive_comm hj (hj ▸ hne) s).symm
    | transmit => exact (exec_transmit_comm hj hi s).symm
    | command => exact absurd (hi.trans hj.symm) hne

/-! ### A step as the instructions it runs -/

/-- A sequence whose second part does nothing. -/
@[simp] theorem andThen_next_right (o : Result) : andThen o .next = o := by
  cases o <;> rfl

/-- The step takes the first listed input off the list and, short of rst, runs the three ports on it. -/
theorem step_of_inputs {s : State} {x : Option Byte} {q : Option TxRequest} {c : Option PidCommand}
    {rest : List StepInput} (h : s.inputs = { rst := false, rx := x, tx := q, cmd := c } :: rest) :
    step s = andThen (andThen (stepRx x { s with inputs := rest }) (stepTx q)) (stepCmd c) := by
  have hnext : s.nextInput = { rst := false, rx := x, tx := q, cmd := c } := by
    rw [State.nextInput, h, List.headD_cons]
  have hdrop : s.dropInput = { s with inputs := rest } := by rw [State.dropInput, h, List.tail_cons]
  rw [step, hnext, hdrop]
  rfl

/-- An operation that decodes runs its instruction. -/
theorem runOp_of_decodeOp {o : PortOp} {s : State} {i : Instr} (h : decodeOp s.rx.view o = .ok i) :
    runOp o s = exec i s := by
  rw [runOp, h]

theorem stepRx_of_decodeRx {b : Byte} {s : State} {i : Instr} (h : decodeRx s.rx.view b = .ok i) :
    stepRx (some b) s = exec i s :=
  runOp_of_decodeOp (o := .rx b) h

theorem stepTx_some (q : TxRequest) : stepTx (some q) = exec (.txEncode q.steer q.err q.tgt) := rfl

theorem stepCmd_some (c : PidCommand) : stepCmd (some c) = exec (decodeCmd c) := rfl

/-- The idle pulse of the transmit port (R111) is an update off the receive side. -/
theorem stepTx_none : stepTx none = fun t => .next (t.mapOffRx TxUnit.idle id) := rfl

theorem stepCmd_none : stepCmd none = .next := rfl

/-- Settles O7. -/
theorem stepRunsAllThreePorts : Obligations.StepRunsAllThreePorts := by
  intro s b q c rest i hin hdec
  have hrx : stepRx (some b) { s with inputs := rest } = exec i { s with inputs := rest } := stepRx_of_decodeRx hdec
  rw [step_of_inputs hin, hrx, stepTx_some, stepCmd_some]

/-- Settles O6, by the port of the operation. On the receive port the pulse of TX_VALID comes after the row in the step
and before it in the statement; the two commute. -/
theorem stepRunsTheDecodedInstruction : Obligations.StepRunsTheDecodedInstruction := by
  intro s o rest i hin hdec
  cases o with
  | rx b =>
    obtain ⟨-, henc, -⟩ := decodeRx_ok hdec
    have hport : i.port = .receive := congrArg PortOp.port henc
    have hrx : stepRx (some b) { s with inputs := rest } = exec i { s with inputs := rest } :=
      stepRx_of_decodeRx hdec
    calc step s
        = andThen (andThen (stepRx (some b) { s with inputs := rest }) (stepTx none)) (stepCmd none) :=
          step_of_inputs hin
      _ = andThen (exec i { s with inputs := rest }) (stepTx none) := by
          rw [stepCmd_none, andThen_next_right, hrx]
      _ = exec i (State.mapOffRx TxUnit.idle id { s with inputs := rest }) := by
          rw [stepTx_none, exec_receive_mapOffRx hport]
  | tx q =>
    cases hdec
    exact step_of_inputs hin
  | cmd c =>
    cases hdec
    exact step_of_inputs hin

end Sys2Proof.Machine

/-! ## State: the invariant, the writers of each register, and what is never read (10_state)

A step runs the three units side by side (`step_eq_next`), so every statement about a step is put together from one
statement about each unit's own port. -/

namespace Sys2Proof.Machine

/-! ### The checksum of a frame that is being filled -/

/-- A byte past the summed range does not count. -/
theorem cks_set_of_lt {f : List Byte} {a b k : Nat} (v : Byte) (hb : b < k) : cks (f.set k v) a b = cks f a b := by
  have hdrop : ((f.set k v).drop a).take (b + 1 - a) = (f.drop a).take (b + 1 - a) := by
    rw [List.drop_set]
    split
    · rfl
    · rw [List.take_set_of_le (by omega)]
  rw [cks, cks, hdrop]

/-- The last byte of the summed range, split off. -/
theorem cks_succ {f : List Byte} {a k : Nat} (ha : a ≤ k + 1) (hk : k + 1 < f.length) :
    cks f a (k + 1) = cks f a k + f[k + 1] := by
  have hlast : (f.drop a).take (k + 1 + 1 - a) = (f.drop a).take (k + 1 - a) ++ [f[k + 1]] := by
    have hget : (f.drop a)[k + 1 - a]'(by rw [List.length_drop]; omega) = f[k + 1] := by
      simp only [List.getElem_drop, Nat.add_sub_cancel' ha]
    rw [← hget, List.take_append_getElem, Nat.sub_add_comm ha]
  rw [cks, cks, hlast]
  simp [BitVec.ofNat_add]

/-- The byte written right after the summed range extends the sum by itself (R24, R135). -/
theorem cks_set_succ {f : List Byte} {a k : Nat} (v : Byte) (ha : a ≤ k + 1) (hk : k + 1 < f.length) :
    cks (f.set (k + 1) v) a (k + 1) = cks f a k + v := by
  rw [cks_succ ha (by rwa [List.length_set]), cks_set_of_lt v (Nat.lt_succ_self k), List.getElem_set_self]

/-! ### The receive side's invariant, one lemma per row -/

theorem RxUnit.inv_iff_of_seek {r : RxUnit} (hs : r.rxState = .seek) :
    r.Inv ↔ r.rxIdx.val = 0 ∧ r.rxBuf[7] = 0 ∧ r.slotsAgree := by
  simp [RxUnit.Inv, RxUnit.indexed, RxUnit.summed, RxUnit.buffered, hs]

theorem RxUnit.inv_iff_of_body {r : RxUnit} (hs : r.rxState = .body) :
    r.Inv ↔ (1 ≤ r.rxIdx.val ∧ r.rxIdx.val ≤ 6) ∧ r.rxAcc = cks r.rxBuf.toList 1 (r.rxIdx.val - 1) ∧
      (r.rxBuf[0] = Config.startMarker ∧ r.rxBuf[7] = 0) ∧ r.slotsAgree := by
  simp [RxUnit.Inv, RxUnit.indexed, RxUnit.summed, RxUnit.buffered, hs]

theorem RxUnit.inv_iff_of_endMark {r : RxUnit} (hs : r.rxState = .endMark) :
    r.Inv ↔ r.rxIdx.val = 7 ∧ r.rxAcc = cks r.rxBuf.toList 1 5 ∧
      (r.rxBuf[0] = Config.startMarker ∧ r.rxBuf[7] = 0) ∧ r.slotsAgree := by
  simp [RxUnit.Inv, RxUnit.indexed, RxUnit.summed, RxUnit.buffered, hs]

/-- RX_EVENT is in no part of the invariant. -/
theorem RxUnit.setEvent_inv {r : RxUnit} (e : RxEvent) (h : r.Inv) : (r.setEvent e).Inv := h

/-- Every return to SEEK (R137 to R139) needs only what holds in every parser state. -/
theorem RxUnit.toSeek_inv {r : RxUnit} (e : RxEvent) (h7 : r.rxBuf[7] = 0) (hslots : r.slotsAgree) :
    (r.toSeek e).Inv :=
  (RxUnit.inv_iff_of_seek (r.toSeek_rxState e)).2 ⟨rfl, h7, hslots⟩

/-- The two views of the same four parameter bytes (R62, R114). -/
theorem join32_eq_floatView (b0 b1 b2 b3 : Byte) : join32 b0 b1 b2 b3 = floatView (join16 b0 b1) (join16 b2 b3) := by
  unfold join32 floatView join16
  ext i hi
  simp only [BitVec.getElem_append]
  grind

theorem RxUnit.loadSlots_slotsAgree (r : RxUnit) (b : Vector Byte 8) : (r.loadSlots (decodeParams b)).slotsAgree :=
  join32_eq_floatView ..

/-- R132: the frame starts with its marker and an empty sum. -/
theorem RxUnit.startFrame_inv {r : RxUnit} (h7 : r.rxBuf[7] = 0) (hslots : r.slotsAgree) : r.startFrame.Inv := by
  refine (RxUnit.inv_iff_of_body r.startFrame_rxState).2 ⟨by simp, ?_, ⟨?_, ?_⟩, hslots⟩
  · simp [cks]
  · simp
  · simpa using h7

theorem RxUnit.pushBody_rxIdx_val {r : RxUnit} (b : Byte) (h : r.rxIdx.val ≤ 5) :
    (r.pushBody b).rxIdx.val = r.rxIdx.val + 1 := by
  rw [RxUnit.pushBody_rxIdx]
  omega

/-- R135: the byte is written right after the bytes summed so far, and added. -/
theorem RxUnit.pushBody_inv {r : RxUnit} (b : Byte) (hs : r.rxState = .body) (h1 : 1 ≤ r.rxIdx.val)
    (h5 : r.rxIdx.val ≤ 5) (h : r.Inv) : (r.pushBody b).Inv := by
  obtain ⟨-, hacc, ⟨h0, h7⟩, hslots⟩ := (RxUnit.inv_iff_of_body hs).1 h
  refine (RxUnit.inv_iff_of_body (r := r.pushBody b) hs).2 ⟨?_, ?_, ⟨?_, ?_⟩, hslots⟩
  · rw [RxUnit.pushBody_rxIdx_val b h5]
    omega
  · obtain ⟨k, hk⟩ := Nat.exists_eq_add_of_le' h1
    have hlen : k + 1 < r.rxBuf.toList.length := by rw [Vector.length_toList]; omega
    rw [RxUnit.pushBody_rxIdx_val b h5, RxUnit.pushBody_rxAcc, RxUnit.pushBody_rxBuf, Vector.toList_set, hacc]
    simp only [hk, Nat.add_sub_cancel, cks_set_succ b (Nat.le_add_left 1 k) hlen]
  · simpa [Vector.getElem_set_ne, show r.rxIdx.val ≠ 0 by omega] using h0
  · simpa [Vector.getElem_set_ne, show r.rxIdx.val ≠ 7 by omega] using h7

/-- R136: the received checksum is written past the summed bytes. -/
theorem RxUnit.storeChk_inv {r : RxUnit} (b : Byte) (hs : r.rxState = .body) (h6 : r.rxIdx.val = 6) (h : r.Inv) :
    (r.storeChk b).Inv := by
  obtain ⟨-, hacc, ⟨h0, h7⟩, hslots⟩ := (RxUnit.inv_iff_of_body hs).1 h
  refine (RxUnit.inv_iff_of_endMark (r.storeChk_rxState b)).2 ⟨rfl, ?_, ⟨?_, ?_⟩, hslots⟩
  · rw [RxUnit.storeChk_rxAcc, RxUnit.storeChk_rxBuf, Vector.toList_set, cks_set_of_lt b (by decide), hacc, h6]
  · simpa using h0
  · simpa using h7

/-- The receive port keeps the receive side's invariant, row by row. -/
theorem rxAfter_inv {x : Option Byte} {r q : RxUnit} (hr : r.Inv) (h : rxAfter x r = some q) : q.Inv := by
  obtain ⟨-, -, ⟨-, h7⟩, hslots⟩ := id hr
  rcases rxAfter_cases h with ⟨-, rfl⟩ | ⟨b, -, hrow⟩
  · exact RxUnit.setEvent_inv .none hr
  · rcases hrow with ⟨-, -, rfl⟩ | ⟨-, -, rfl⟩ | ⟨hs, h1, h5, rfl⟩ | ⟨hs, h6, rfl⟩ | ⟨-, -, -, -, rfl⟩ |
      ⟨-, -, -, -, rfl⟩ | ⟨-, -, -, rfl⟩
    · exact RxUnit.startFrame_inv h7 hslots
    · exact RxUnit.setEvent_inv .none hr
    · exact RxUnit.pushBody_inv b hs h1 h5 hr
    · exact RxUnit.storeChk_inv b hs h6 hr
    · exact RxUnit.toSeek_inv .accept h7 (RxUnit.loadSlots_slotsAgree r r.rxBuf)
    · exact RxUnit.toSeek_inv .checksumErr h7 hslots
    · exact RxUnit.toSeek_inv .framingErr h7 hslots

/-! ### The transmit side's invariant -/

/-- The frame that encode_telemetry gives has its markers and its checksum right (R116 after R112). -/
theorem decodeTelemetry_encodeTelemetry_ok (s e t : Half) : (decodeTelemetry (encodeTelemetry s e t)).ok = true := by
  have hcks : cks (encodeTelemetry s e t).toList 1 7 = cks (telemetryHead s e t) 1 7 := rfl
  simp only [decodeTelemetry, hcks, Bool.and_eq_true, beq_iff_eq]
  exact ⟨⟨rfl, rfl⟩, rfl⟩

theorem txAfter_inv {u : TxUnit} (x : Option TxRequest) (hu : u.Inv) : (txAfter x u).Inv := by
  cases x with
  | none => exact ⟨hu.1, fun h => by cases h⟩
  | some q =>
    have hok := decodeTelemetry_encodeTelemetry_ok q.steer q.err q.tgt
    exact ⟨.inr hok, fun _ => hok⟩

/-! ### What a command writes and leaves (R160 to R170, R47) -/

theorem cmdAfter_of_reset {c : PidCommand} (h : c.op.toNat = 0x1) (p : PidUnit) :
    cmdAfter c p = (p.rebase c.now).setStatus .ok := by
  simp only [cmdAfter, h]

theorem cmdAfter_of_update {c : PidCommand} (h : c.op.toNat = 0x2) (p : PidUnit) :
    cmdAfter c p = (p.update c.data c.now).setStatus .ok := by
  simp only [cmdAfter, h]

theorem cmdAfter_of_wrSgain {c : PidCommand} (h : c.op.toNat = 0x8) (p : PidUnit) :
    cmdAfter c p = (p.setSgain c.data).setStatus .ok := by
  simp only [cmdAfter, h]

/-- Each setting is changed by its own write alone (R47). -/
theorem cmdAfter_settings (c : PidCommand) (p : PidUnit) :
    (c.op.toNat ≠ 0x3 → (cmdAfter c p).kp = p.kp) ∧ (c.op.toNat ≠ 0x4 → (cmdAfter c p).ki = p.ki) ∧
    (c.op.toNat ≠ 0x5 → (cmdAfter c p).kd = p.kd) ∧ (c.op.toNat ≠ 0x6 → (cmdAfter c p).maxi = p.maxi) ∧
    (c.op.toNat ≠ 0x7 → (cmdAfter c p).dirNeg = p.dirNeg) ∧ (c.op.toNat ≠ 0x8 → (cmdAfter c p).sgain = p.sgain) := by
  rcases cmdAfter_cases c p with ⟨h, e⟩ | ⟨h, e⟩ | ⟨h, e⟩ | ⟨h, e⟩ | ⟨h, e⟩ | ⟨h, e⟩ | ⟨h, e⟩ | ⟨h, e⟩ | ⟨h, e⟩ |
    ⟨h, e⟩ <;> simp [h, e]

/-- The time baseline becomes valid on RESET alone (R41). -/
theorem cmdAfter_tbValid {c : PidCommand} (h : c.op.toNat ≠ 0x1) (p : PidUnit) :
    (cmdAfter c p).tbValid = p.tbValid := by
  unfold cmdAfter
  split
  case h_2 hreset => exact absurd hreset h
  all_goals rfl

/-- The dynamic state is changed by RESET and UPDATE alone (R47). -/
theorem cmdAfter_sameDynamics {c : PidCommand} (hreset : c.op.toNat ≠ 0x1) (hupdate : c.op.toNat ≠ 0x2)
    (p : PidUnit) : p.sameDynamics (cmdAfter c p) := by
  unfold cmdAfter
  split
  case h_2 h => exact absurd h hreset
  case h_3 h => exact absurd h hupdate
  all_goals exact ⟨rfl, rfl, rfl, rfl, rfl, rfl⟩

/-! ### The PID unit's invariant -/

theorem maxiStatus_eq_ok_iff {v : Word} : maxiStatus v = .ok ↔ 0 ≤ v.toInt := by
  unfold maxiStatus
  split <;> simp <;> omega

/-- R167: a negative bound is refused. -/
theorem PidUnit.setMaxi_inv {p : PidUnit} (v : Word) (hp : p.Inv) : (p.setMaxi v).Inv := by
  obtain ⟨hmaxi, hservo⟩ := hp
  refine ⟨?_, hservo⟩
  rw [PidUnit.setMaxi_maxi]
  split
  case isTrue hok => exact maxiStatus_eq_ok_iff.1 hok
  case isFalse => exact hmaxi

theorem PidUnit.rebase_inv {p : PidUnit} (now : Word) (hp : p.Inv) : (p.rebase now).Inv :=
  ⟨hp.1, show -Config.servoLimit ≤ (0 : Word).toInt by decide, show (0 : Word).toInt ≤ Config.servoLimit by decide⟩

/-- CMD_STATUS is in no part of the invariant. -/
theorem PidUnit.setStatus_inv {p : PidUnit} (c : CmdStatus) (hp : p.Inv) : (p.setStatus c).Inv := hp

/-- A value clamped to bounds inside s32 is kept by the narrowing, within those bounds. -/
theorem narrow32_clamp_bounds {x m : Int} (h0 : 0 ≤ m) (h1 : m < 2 ^ 31) :
    -m ≤ (narrow32 (clamp x (-m) m)).toInt ∧ (narrow32 (clamp x (-m) m)).toInt ≤ m := by
  have hlo : -m ≤ clamp x (-m) m := le_clamp (by omega)
  have hhi : clamp x (-m) m ≤ m := clamp_le (by omega)
  rw [narrow32_toInt (by omega) (by omega)]
  exact ⟨hlo, hhi⟩

/-- R40: whatever the operands, UPDATE leaves SERVO_OUT within ±50. -/
theorem PidUnit.update_servoOut_bounds (p : PidUnit) (tgt now : Word) :
    -Config.servoLimit ≤ (p.update tgt now).servoOut.toInt ∧ (p.update tgt now).servoOut.toInt ≤ Config.servoLimit :=
  narrow32_clamp_bounds (by decide) (by decide)

/-- R37: UPDATE leaves I_ACC within ±MAXI (R34 as premise). -/
theorem PidUnit.update_iAcc_bounds {p : PidUnit} (tgt now : Word) (h : 0 ≤ p.maxi.toInt) :
    -p.maxi.toInt ≤ (p.update tgt now).iAcc.toInt ∧ (p.update tgt now).iAcc.toInt ≤ p.maxi.toInt :=
  narrow32_clamp_bounds h (word_toInt_range p.maxi).2

theorem PidUnit.update_inv {p : PidUnit} (tgt now : Word) (hp : p.Inv) : (p.update tgt now).Inv :=
  ⟨hp.1, p.update_servoOut_bounds tgt now⟩

/-- Only RESET, UPDATE and WR_MAXI write a register of the invariant. -/
theorem cmdAfter_inv {p : PidUnit} (c : PidCommand) (hp : p.Inv) : (cmdAfter c p).Inv := by
  unfold cmdAfter
  split
  case h_2 => exact PidUnit.setStatus_inv .ok (PidUnit.rebase_inv c.now hp)
  case h_3 => exact PidUnit.setStatus_inv .ok (PidUnit.update_inv c.data c.now hp)
  case h_7 => exact PidUnit.setStatus_inv _ (PidUnit.setMaxi_inv c.data hp)
  all_goals exact hp

theorem pidAfter_inv {p : PidUnit} (x : Option PidCommand) (hp : p.Inv) : (pidAfter x p).Inv := by
  cases x with
  | none => exact hp
  | some c => exact cmdAfter_inv c hp

/-! ### The invariant of the whole machine -/

/-- MAXI_INIT is not negative (R6, D21): 31 bits, widened to 32 (log 3). -/
theorem PidUnit.reset_maxi_nonneg : 0 ≤ PidUnit.reset.maxi.toInt := by
  have hlt : (Config.maxiInit.setWidth 32).toNat < 2 ^ 31 := by
    rw [BitVec.toNat_setWidth_of_le (by decide)]
    exact Config.maxiInit.isLt
  show 0 ≤ (Config.maxiInit.setWidth 32).toInt
  rw [BitVec.toInt_eq_toNat_of_lt (by omega)]
  omega

theorem RxUnit.reset_inv : RxUnit.reset.Inv := (RxUnit.inv_iff_of_seek rfl).2 ⟨rfl, rfl, rfl⟩

theorem TxUnit.reset_inv : TxUnit.reset.Inv := ⟨.inl rfl, fun h => by cases h⟩

theorem PidUnit.reset_inv : PidUnit.reset.Inv := ⟨PidUnit.reset_maxi_nonneg, by decide, by decide⟩

/-- Settles O17: each unit's reset values meet its part. -/
theorem invariantHoldsAtReset : Obligations.InvariantHoldsAtReset :=
  ⟨RxUnit.reset_inv, TxUnit.reset_inv, PidUnit.reset_inv⟩

/-- Settles O16: the block reset gives the reset values; any other step runs the three units side by side, and each keeps
its own part of the invariant. -/
theorem everyStepKeepsTheInvariant : Obligations.EveryStepKeepsTheInvariant := by
  intro s t ⟨hrx, htx, hpid⟩ hstep
  rcases step_eq_next hstep with ⟨-, rfl⟩ | ⟨-, r, hr, rfl⟩
  · exact ⟨RxUnit.reset_inv, TxUnit.reset_inv, PidUnit.reset_inv⟩
  · exact ⟨rxAfter_inv hrx hr, txAfter_inv _ htx, pidAfter_inv _ hpid⟩

/-! ### I_ACC and the bound in force when it was last written (R37) -/

theorem boundAfter_of_rst {x : StepInput} (h : x.rst = true) (p : PidUnit) (m : Int) :
    boundAfter x p m = PidUnit.reset.maxi.toInt := by
  rw [boundAfter, if_pos h]

theorem boundAfter_of_cmd {x : StepInput} {c : PidCommand} (h : x.rst = false) (hc : x.cmd = some c) (p : PidUnit)
    (m : Int) : boundAfter x p m = if c.op.toNat = 1 ∨ c.op.toNat = 2 then p.maxi.toInt else m := by
  simp [boundAfter, h, hc]

theorem boundAfter_of_idle {x : StepInput} (h : x.rst = false) (hc : x.cmd = none) (p : PidUnit) (m : Int) :
    boundAfter x p m = m := by
  simp [boundAfter, h, hc]

/-- RESET and UPDATE bring I_ACC within MAXI (R162, R163). -/
theorem cmdAfter_iAcc_bounds {c : PidCommand} {p : PidUnit} (h : c.op.toNat = 1 ∨ c.op.toNat = 2)
    (hmaxi : 0 ≤ p.maxi.toInt) :
    -p.maxi.toInt ≤ (cmdAfter c p).iAcc.toInt ∧ (cmdAfter c p).iAcc.toInt ≤ p.maxi.toInt := by
  rcases h with hreset | hupdate
  · simp [cmdAfter_of_reset hreset, hmaxi]
  · rw [cmdAfter_of_update hupdate]
    exact PidUnit.update_iAcc_bounds c.data c.now hmaxi

/-- Settles O18: the block reset, RESET and UPDATE bring I_ACC within the new bound; nothing else writes it. -/
theorem integratorStaysWithinItsBound : Obligations.IntegratorStaysWithinItsBound := by
  intro s t m hmaxi hlo hhi hstep
  rcases step_eq_next hstep with ⟨hrst, rfl⟩ | ⟨hrst, r, -, rfl⟩
  · have hiAcc : s.dropInput.blockReset.pid.iAcc.toInt = 0 := rfl
    have hnonneg := PidUnit.reset_maxi_nonneg
    rw [boundAfter_of_rst hrst]
    omega
  · cases hc : s.nextInput.cmd with
    | none =>
      rw [boundAfter_of_idle hrst hc]
      exact ⟨hlo, hhi⟩
    | some c =>
      rw [boundAfter_of_cmd hrst hc]
      split
      case isTrue h => exact cmdAfter_iAcc_bounds h hmaxi
      case isFalse h =>
        obtain ⟨hreset, hupdate⟩ := not_or.1 h
        obtain ⟨hiAcc, -⟩ := cmdAfter_sameDynamics hreset hupdate s.pid
        simp only [pidAfter, hiAcc]
        exact ⟨hlo, hhi⟩

/-! ### What the receive port writes, by the event it reports -/

/-- The slots and GOOD_CNT move on ACCEPT alone, each of the other counters on its own error alone (R137 to R139). -/
theorem rxAfter_event_cases {x : Option Byte} {r q : RxUnit} (h : rxAfter x r = some q) :
    (q.rxEvent = .none ∧ r.sameSlots q ∧ r.sameCounters q) ∨
    (q.rxEvent = .accept ∧ q.goodCnt = countUp r.goodCnt ∧ q.frmCnt = r.frmCnt ∧ q.chkCnt = r.chkCnt) ∨
    (q.rxEvent = .framingErr ∧ r.sameSlots q ∧
      q.goodCnt = r.goodCnt ∧ q.frmCnt = countUp r.frmCnt ∧ q.chkCnt = r.chkCnt) ∨
    (q.rxEvent = .checksumErr ∧ r.sameSlots q ∧
      q.goodCnt = r.goodCnt ∧ q.frmCnt = r.frmCnt ∧ q.chkCnt = countUp r.chkCnt) := by
  have hslots : r.sameSlots r := ⟨rfl, rfl, rfl, rfl⟩
  have hcounters : r.sameCounters r := ⟨rfl, rfl, rfl⟩
  rcases rxAfter_cases h with ⟨-, rfl⟩ | ⟨b, -, hrow⟩
  · exact .inl ⟨rfl, hslots, hcounters⟩
  · rcases hrow with ⟨-, -, rfl⟩ | ⟨-, -, rfl⟩ | ⟨-, -, -, rfl⟩ | ⟨-, -, rfl⟩ | ⟨-, -, -, -, rfl⟩ |
      ⟨-, -, -, -, rfl⟩ | ⟨-, -, -, rfl⟩
    · exact .inl ⟨rfl, hslots, hcounters⟩
    · exact .inl ⟨rfl, hslots, hcounters⟩
    · exact .inl ⟨rfl, hslots, hcounters⟩
    · exact .inl ⟨rfl, hslots, hcounters⟩
    · exact .inr (.inl ⟨rfl, rfl, rfl, rfl⟩)
    · exact .inr (.inr (.inr ⟨rfl, hslots, rfl, rfl, rfl⟩))
    · exact .inr (.inr (.inl ⟨rfl, hslots, rfl, rfl, rfl⟩))

/-- R47's "written by" column for the receive side. -/
theorem rxAfter_writers {x : Option Byte} {r q : RxUnit} (h : rxAfter x r = some q) :
    (q.rxEvent ≠ .accept → r.sameSlots q ∧ q.goodCnt = r.goodCnt) ∧
    (q.rxEvent ≠ .framingErr → q.frmCnt = r.frmCnt) ∧ (q.rxEvent ≠ .checksumErr → q.chkCnt = r.chkCnt) := by
  rcases rxAfter_event_cases h with ⟨-, hslots, hgood, hfrm, hchk⟩ | ⟨he, -, hfrm, hchk⟩ |
    ⟨he, hslots, hgood, -, hchk⟩ | ⟨he, hslots, hgood, hfrm, -⟩
  · exact ⟨fun _ => ⟨hslots, hgood⟩, fun _ => hfrm, fun _ => hchk⟩
  · exact ⟨fun hne => absurd he hne, fun _ => hfrm, fun _ => hchk⟩
  · exact ⟨fun _ => ⟨hslots, hgood⟩, fun hne => absurd he hne, fun _ => hchk⟩
  · exact ⟨fun _ => ⟨hslots, hgood⟩, fun _ => hfrm, fun hne => absurd he hne⟩

theorem txAfter_none_txFrame (u : TxUnit) : (txAfter none u).txFrame = u.txFrame := rfl

theorem State.commands_iff {s : State} {c : PidCommand} (hc : s.nextInput.cmd = some c) (n : Nat) :
    s.commands n ↔ c.op.toNat = n := by
  simp [State.commands, hc]

theorem PidUnit.sameDynamics_refl (p : PidUnit) : p.sameDynamics p := ⟨rfl, rfl, rfl, rfl, rfl, rfl⟩

/-- Short of the block reset, a step that answers next puts the three units' next values side by side. -/
theorem step_eq_next_of_not_rst {s t : State} (h : step s = .next t) (hrst : s.nextInput.rst = false) :
    ∃ r, rxAfter s.nextInput.rx s.rx = some r ∧
      t = { rx := r, tx := txAfter s.nextInput.tx s.tx, pid := pidAfter s.nextInput.cmd s.pid,
            inputs := s.inputs.tail } := by
  rcases step_eq_next h with ⟨hrst', -⟩ | ⟨-, hnext⟩
  · simp [hrst] at hrst'
  · exact hnext

/-- Settles O19, by whether the step carries a command. -/
theorem registersHaveOnlyTheirWriters : Obligations.RegistersHaveOnlyTheirWriters := by
  intro s t hstep hrst
  obtain ⟨r, hr, rfl⟩ := step_eq_next_of_not_rst hstep hrst
  obtain ⟨hgood, hfrm, hchk⟩ := rxAfter_writers hr
  have htx : s.nextInput.tx = none → (txAfter s.nextInput.tx s.tx).txFrame = s.tx.txFrame := by
    intro hnone
    rw [hnone, txAfter_none_txFrame]
  cases hc : s.nextInput.cmd with
  | none =>
    exact ⟨fun _ => rfl, fun _ => rfl, fun _ => rfl, fun _ => rfl, fun _ => rfl, fun _ => rfl, fun _ => rfl,
      fun _ _ => s.pid.sameDynamics_refl, fun _ => rfl, hgood, hfrm, hchk, htx⟩
  | some c =>
    obtain ⟨hkp, hki, hkd, hmaxi, hdir, hsgain⟩ := cmdAfter_settings c s.pid
    simp only [State.commands_iff hc]
    exact ⟨hkp, hki, hkd, hmaxi, hdir, hsgain, fun h => cmdAfter_tbValid h s.pid,
      fun h1 h2 => cmdAfter_sameDynamics h1 h2 s.pid, nofun, hgood, hfrm, hchk, htx⟩

/-- A counter stays or rises by one, without wrap (R27). -/
theorem countUp_toNat_eq_or (c : Word) : (countUp c).toNat = c.toNat ∨ (countUp c).toNat = c.toNat + 1 := by
  rw [countUp_toNat]
  omega

/-- Settles O22, by the event the step reports: ACCEPT, FRAMING_ERR and CHECKSUM_ERR each count in their own counter. -/
theorem countersAreMonotonic : Obligations.CountersAreMonotonic := by
  intro s t hstep hrst
  obtain ⟨r, hr, rfl⟩ := step_eq_next_of_not_rst hstep hrst
  rcases rxAfter_event_cases hr with ⟨-, -, hgood, hfrm, hchk⟩ | ⟨-, hgood, hfrm, hchk⟩ |
    ⟨-, -, hgood, hfrm, hchk⟩ | ⟨-, -, hgood, hfrm, hchk⟩ <;> simp only [hgood, hfrm, hchk]
  · simp
  · simpa using countUp_toNat_eq_or s.rx.goodCnt
  · simpa using countUp_toNat_eq_or s.rx.frmCnt
  · simpa using countUp_toNat_eq_or s.rx.chkCnt

/-! ### What the units read -/

theorem step_of_rst {s : State} (h : s.nextInput.rst = true) : step s = .next s.dropInput.blockReset := by
  rw [step_eq, if_pos h]

/-- Settles O20: each unit's next value is a function of that unit and of its own ports. -/
theorem unitsDoNotReadEachOther : Obligations.UnitsDoNotReadEachOther := by
  intro s s' t t' hstep hstep' hrst
  rcases step_eq_next hstep with ⟨hset, rfl⟩ | ⟨hclear, r, hr, rfl⟩
  · have ht' : t' = s'.dropInput.blockReset := by
      rw [step_of_rst (hrst ▸ hset)] at hstep'
      cases hstep'
      rfl
    exact ⟨fun _ _ _ _ => ht' ▸ ⟨rfl, rfl⟩, fun _ _ => ht' ▸ rfl⟩
  · obtain ⟨r', hr', rfl⟩ := step_eq_next_of_not_rst hstep' (hrst ▸ hclear)
    refine ⟨fun hrx htx hin hreq => ⟨?_, ?_⟩, fun hpid hcmd => ?_⟩
    · rw [hrx, hin, hr'] at hr
      exact (Option.some.inj hr).symm
    · show txAfter s.nextInput.tx s.tx = txAfter s'.nextInput.tx s'.tx
      rw [htx, hreq]
    · show pidAfter s.nextInput.cmd s.pid = pidAfter s'.nextInput.cmd s'.pid
      rw [hpid, hcmd]

/-- RX_EVENT is overwritten unread (R28). -/
theorem rxAfter_setEvent (x : Option Byte) (r : RxUnit) (e : RxEvent) : rxAfter x (r.setEvent e) = rxAfter x r := by
  cases x <;> rfl

/-- TX_VALID is overwritten unread (R111). -/
theorem txAfter_of_txFrame_eq {u v : TxUnit} (x : Option TxRequest) (h : v.txFrame = u.txFrame) :
    txAfter x v = txAfter x u := by
  cases x <;> simp [txAfter, TxUnit.idle, TxUnit.latch, h]

/-- The unit `p` with SGAIN and the status outputs of `q` (R36, R46). -/
def PidUnit.withOutputs (p q : PidUnit) : PidUnit :=
  { p with sgain := q.sgain, tbValid := q.tbValid, dtZero := q.dtZero, cmdStatus := q.cmdStatus }

/-- No command reads SGAIN or a status output: the other registers come out the same. -/
theorem cmdAfter_withOutputs (c : PidCommand) (p q : PidUnit) :
    cmdAfter c (p.withOutputs q) = (cmdAfter c p).withOutputs (cmdAfter c (p.withOutputs q)) := by
  unfold cmdAfter
  split <;> rfl

/-- A command writes CMD_STATUS, whatever it was (R160). -/
theorem cmdAfter_withOutputs_cmdStatus (c : PidCommand) (p q : PidUnit) :
    (cmdAfter c (p.withOutputs q)).cmdStatus = (cmdAfter c p).cmdStatus := by
  unfold cmdAfter
  split <;> rfl

/-- RESET and UPDATE write DT_ZERO, whatever it was (R162, R163). -/
theorem cmdAfter_withOutputs_dtZero {c : PidCommand} (h : c.op.toNat = 0x1 ∨ c.op.toNat = 0x2) (p q : PidUnit) :
    (cmdAfter c (p.withOutputs q)).dtZero = (cmdAfter c p).dtZero := by
  rcases h with h | h
  · simp [cmdAfter_of_reset h]
  · rw [cmdAfter_of_update h, cmdAfter_of_update h]
    rfl

theorem pidAfter_withOutputs (x : Option PidCommand) (p q : PidUnit) :
    pidAfter x (p.withOutputs q) = (pidAfter x p).withOutputs (pidAfter x (p.withOutputs q)) := by
  cases x with
  | none => rfl
  | some c => exact cmdAfter_withOutputs c p q

theorem RxUnit.eq_setEvent_iff {r q : RxUnit} :
    q = r.setEvent q.rxEvent ↔ r.sameParser q ∧ r.sameSlots q ∧ r.sameCounters q := by
  cases r; cases q
  simp [RxUnit.setEvent, RxUnit.sameParser, RxUnit.sameSlots, RxUnit.sameCounters, and_assoc]

theorem PidUnit.eq_withOutputs_iff {p q : PidUnit} :
    q = p.withOutputs q ↔ q.kp = p.kp ∧ q.ki = p.ki ∧ q.kd = p.kd ∧ q.maxi = p.maxi ∧ q.dirNeg = p.dirNeg ∧
      q.iAcc = p.iAcc ∧ q.prevErr = p.prevErr ∧ q.prevTime = p.prevTime ∧ q.servoOut = p.servoOut := by
  cases p; cases q
  simp [PidUnit.withOutputs]

/-- Agreement on all but the outputs, unit by unit. -/
theorem State.agreeButOutputs_iff {s t : State} :
    s.agreeButOutputs t ↔ t.rx = s.rx.setEvent t.rx.rxEvent ∧ t.tx.txFrame = s.tx.txFrame ∧
      t.pid = s.pid.withOutputs t.pid ∧ t.inputs = s.inputs := by
  simp only [State.agreeButOutputs, RxUnit.eq_setEvent_iff, PidUnit.eq_withOutputs_iff, and_assoc]

theorem State.nextInput_congr {s t : State} (h : t.inputs = s.inputs) : t.nextInput = s.nextInput := by
  rw [State.nextInput, State.nextInput, h]

theorem step_of_rxAfter {s : State} {r : RxUnit} (h : s.nextInput.rst = false)
    (hr : rxAfter s.nextInput.rx s.rx = some r) :
    step s = .next { rx := r, tx := txAfter s.nextInput.tx s.tx, pid := pidAfter s.nextInput.cmd s.pid,
                     inputs := s.inputs.tail } := by
  simp [step_eq, h, hr]

/-- A step from a state that agrees on all but the outputs, unit by unit: the link unit is the same after it. -/
theorem step_of_agreeButOutputs {s s' : State} {r : RxUnit} (h : s.agreeButOutputs s') (hrst : s.nextInput.rst = false)
    (hr : rxAfter s.nextInput.rx s.rx = some r) :
    step s' = .next { rx := r, tx := txAfter s.nextInput.tx s.tx,
                      pid := pidAfter s.nextInput.cmd (s.pid.withOutputs s'.pid), inputs := s.inputs.tail } := by
  obtain ⟨hrx, htx, hpid, hin⟩ := State.agreeButOutputs_iff.1 h
  have hnext : s'.nextInput = s.nextInput := State.nextInput_congr hin
  have hr' : rxAfter s'.nextInput.rx s'.rx = some r := by rw [hnext, hrx, rxAfter_setEvent, hr]
  rw [step_of_rxAfter (hnext ▸ hrst) hr', hnext, hin, txAfter_of_txFrame_eq _ htx, ← hpid]

/-- Settles O21: the link unit comes out equal, the PID unit up to its outputs, and each output that a command writes is
written unread. -/
theorem statusBitsAndSgainAreNeverRead : Obligations.StatusBitsAndSgainAreNeverRead := by
  intro s s' t hagree hstep
  rcases step_eq_next hstep with ⟨hrst, rfl⟩ | ⟨hrst, r, hr, rfl⟩
  · obtain ⟨-, -, -, hin⟩ := State.agreeButOutputs_iff.1 hagree
    have hnext : s'.nextInput = s.nextInput := State.nextInput_congr hin
    have hreset : s'.dropInput.blockReset = s.dropInput.blockReset := by
      simp only [State.blockReset, State.dropInput, hin]
    refine ⟨s.dropInput.blockReset, ?_, State.agreeButOutputs_iff.2 ⟨rfl, rfl, rfl, rfl⟩, rfl, rfl, fun _ => rfl,
      fun _ => rfl, fun _ => rfl, fun _ => rfl, fun _ => rfl⟩
    rw [step_of_rst (hnext ▸ hrst), hreset]
  · refine ⟨_, step_of_agreeButOutputs hagree hrst hr,
      State.agreeButOutputs_iff.2 ⟨rfl, rfl, pidAfter_withOutputs .., rfl⟩, rfl, rfl, ?_⟩
    cases hc : s.nextInput.cmd with
    | none => simp [State.commands, hc, hrst]
    | some c =>
      simp only [State.commands_iff hc, hrst, pidAfter]
      exact ⟨fun _ => cmdAfter_withOutputs_cmdStatus .., fun h => cmdAfter_withOutputs_dtZero h ..,
        fun h => by simp [cmdAfter_of_reset h], fun h => by simp [cmdAfter_of_wrSgain h], nofun⟩

/-! ### Codes, reset values and read ports -/

theorem rxStateCode_ne_three (st : RxState) : rxStateCode st ≠ 3 := by
  cases st <;> decide

theorem cmdStatusCode_ne_three (c : CmdStatus) : cmdStatusCode c ≠ 3 := by
  cases c <;> decide

/-- Settles O5. -/
theorem statusCodesAreAsSpecified : Obligations.StatusCodesAreAsSpecified := by
  intro s
  exact ⟨⟨rfl, rfl, rfl, rfl⟩, ⟨rfl, rfl, rfl⟩, ⟨rfl, rfl, rfl⟩, rxStateCode_ne_three s.rx.rxState,
    cmdStatusCode_ne_three s.pid.cmdStatus⟩

theorem RxUnit.reset_rxBuf (k : Fin 8) : RxUnit.reset.rxBuf[k] = 0 :=
  Vector.getElem_replicate (n := 8) k.isLt

theorem TxUnit.reset_txFrame (k : Fin 10) : TxUnit.reset.txFrame[k] = 0 :=
  Vector.getElem_replicate (n := 10) k.isLt

/-- Widening MAXI_INIT to its register keeps its value (R6, D21). -/
theorem PidUnit.reset_maxi_toNat : PidUnit.reset.maxi.toNat = Config.maxiInit.toNat :=
  BitVec.toNat_setWidth_of_le (by decide)

/-- Settles O10: the first column by the reset values of the three units, the second by the writes of `rebase`. -/
theorem resetValues : Obligations.ResetValues := by
  constructor
  · exact ⟨rfl, rfl, rfl, RxUnit.reset_rxBuf, rfl, rfl, rfl, rfl, rfl, rfl, rfl, rfl, TxUnit.reset_txFrame, rfl, rfl, rfl,
      rfl, PidUnit.reset_maxi_toNat, rfl, rfl, rfl, rfl, rfl, rfl, rfl, rfl, rfl⟩
  · intro s now
    exact ⟨_, exec_command rfl s, ⟨rfl, rfl, rfl⟩, ⟨rfl, rfl, rfl, rfl, rfl, rfl⟩, rfl, rfl, rfl, rfl, rfl, rfl, rfl⟩

/-- A one-bit register on its read port (R47). -/
theorem ofBool_eq_ite (b : Bool) : BitVec.ofBool b = if b then 1 else 0 := by
  cases b <;> rfl

/-- Settles O54. -/
theorem readPortsShowTheRegisters : Obligations.ReadPortsShowTheRegisters := by
  intro s
  refine ⟨⟨rfl, rfl, rfl, rfl, rfl, rfl, rfl, rfl, rfl, ofBool_eq_ite s.tx.txValid, rfl, rfl, rfl, rfl,
    ofBool_eq_ite s.pid.dirNeg, rfl, rfl, rfl, rfl, rfl, ofBool_eq_ite s.pid.tbValid, ofBool_eq_ite s.pid.dtZero, rfl⟩,
    ?_⟩
  intro st idx acc buf xs
  rfl

end Sys2Proof.Machine

/-! ## Memory: which operations can be repeated (20_memory R67)

Off the receive port only UPDATE reads what it writes: every other instruction writes its operands or constants, or by
a guard on its operands nothing, so a second run finds its own writes in place. -/

namespace Sys2Proof.Machine

/-- A second WR_MAXI of the same value writes nothing new: the guard reads the operand alone (R167). -/
@[simp] theorem PidUnit.setMaxi_setMaxi (p : PidUnit) (v : Word) : (p.setMaxi v).setMaxi v = p.setMaxi v := by
  by_cases h : maxiStatus v = .ok <;> simp [PidUnit.setMaxi, h]

/-- A second WR_DIR of the same value writes nothing new: the guard reads the operand alone (R168). -/
@[simp] theorem PidUnit.setDir_setDir (p : PidUnit) (v : Word) : (p.setDir v).setDir v = p.setDir v := by
  by_cases h : dirStatus v = .ok <;> simp [PidUnit.setDir, h]

/-- No instruction makes more of the transmit side the second time (R111). -/
theorem txEffect_txEffect (i : Instr) (u : TxUnit) : txEffect i (txEffect i u) = txEffect i u := by
  cases i <;> rfl

/-- No instruction but UPDATE makes more of the PID unit the second time. -/
theorem pidEffect_pidEffect {i : Instr} (hupd : ∀ tgt now, i ≠ .pidUpdate tgt now) (p : PidUnit) :
    pidEffect i (pidEffect i p) = pidEffect i p := by
  cases i with
  | pidUpdate tgt now => exact absurd rfl (hupd tgt now)
  | pidWrMaxi v =>
    show ((p.setMaxi v).setMaxi v).setStatus (maxiStatus v) = (p.setMaxi v).setStatus (maxiStatus v)
    rw [PidUnit.setMaxi_setMaxi]
  | pidWrDir v =>
    show ((p.setDir v).setDir v).setStatus (dirStatus v) = (p.setDir v).setStatus (dirStatus v)
    rw [PidUnit.setDir_setDir]
  | _ => rfl

/-- Off the receive port every instruction but UPDATE completes, in a state that a second run leaves as it is. -/
theorem exec_idempotent {i : Instr} (hport : i.port ≠ .receive) (hupd : ∀ tgt now, i ≠ .pidUpdate tgt now)
    (s : State) : ∃ t, exec i s = .next t ∧ exec i t = .next t := by
  refine ⟨s.mapOffRx (txEffect i) (pidEffect i), exec_of_port_ne_receive hport s, ?_⟩
  rw [exec_of_port_ne_receive hport]
  simp [State.mapOffRx, State.withTx, State.withPid, txEffect_txEffect, pidEffect_pidEffect hupd]

/-- Settles O52: none of the eight stands on the receive port, and none is UPDATE. -/
theorem writesAreIdempotent : Obligations.WritesAreIdempotent := by
  intro s v st e tg i hi
  simp only [List.mem_cons, List.not_mem_nil, or_false] at hi
  rcases hi with rfl | rfl | rfl | rfl | rfl | rfl | rfl | rfl <;>
    exact exec_idempotent (fun h => by cases h) (fun _ _ h => by cases h) s

end Sys2Proof.Machine

/-! ## Encoding: words and instructions, and a telemetry frame on the receive port (30_encoding)

An instruction stands on the wires of its port and the wires stand in the bytes of its word, so each direction of the
codec is two steps: bytes and wires (layout: log 4), wires and instruction (R84, R131). -/

namespace Sys2Proof

/-! ### The wires of a command and its row (R84) -/

theorem decodeCmd_op_eq_AB (low : BitVec 1) (data now : Word) :
    decodeCmd { op := 0b101#3 ++ low, data := data, now := now } = .pidReservedAB low := by
  obtain rfl | rfl : low = 0 ∨ low = 1 := by revert low; decide
  all_goals rfl

/-- R84: from 0xC up the row is RESERVED_CF and keeps bits 1 to 0 of cmd_op. -/
theorem decodeCmd_of_twelve_le {c : PidCommand} (h : 12 ≤ c.op.toNat) :
    decodeCmd c = .pidReservedCF (c.op.extractLsb' 0 2) := by
  unfold decodeCmd
  split
  case h_13 => rfl
  all_goals omega

theorem decodeCmd_op_eq_CF (low : BitVec 2) (data now : Word) :
    decodeCmd { op := 0b11#2 ++ low, data := data, now := now } = .pidReservedCF low := by
  have hop : ∀ l : BitVec 2, 12 ≤ (0b11#2 ++ l).toNat ∧ (0b11#2 ++ l).extractLsb' 0 2 = l := by decide
  obtain ⟨hle, hlow⟩ := hop low
  rw [decodeCmd_of_twelve_le hle, hlow]

/-- Settles O53, op code by op code: the command's own row by the op test, the reserved ones from 0xC up by their low
bits. -/
theorem commandWordSelectsItsRow : Obligations.CommandWordSelectsItsRow := by
  refine ⟨fun _ _ => rfl, fun data now =>
    ⟨rfl, rfl, rfl, rfl, rfl, rfl, rfl, rfl, rfl, rfl, rfl, rfl, ?_, ?_, ?_, ?_⟩⟩
  · exact decodeCmd_op_eq_CF 0 data now
  · exact decodeCmd_op_eq_CF 1 data now
  · exact decodeCmd_op_eq_CF 2 data now
  · exact decodeCmd_op_eq_CF 3 data now

/-- The wires that carry a command select its own row. -/
theorem decodeCmd_of_encodeOp {i : Instr} {c : PidCommand} (h : encodeOp i = .cmd c) : decodeCmd c = i := by
  cases i with
  | pidReservedAB low =>
    cases h
    exact decodeCmd_op_eq_AB low 0 0
  | pidReservedCF low =>
    cases h
    exact decodeCmd_op_eq_CF low 0 0
  | _ =>
    cases h
    all_goals rfl

/-- The row a command selects stands on wires with the same cmd_op; the operands it ignores need not come back. -/
theorem encodeOp_decodeCmd (c : PidCommand) : ∃ d, encodeOp (decodeCmd c) = .cmd d ∧ d.op = c.op := by
  have hCF : ∀ op : BitVec 4, 12 ≤ op.toNat → 0b11#2 ++ op.extractLsb' 0 2 = op := by decide
  unfold decodeCmd
  split
  case h_13 => exact ⟨_, rfl, hCF c.op (by grind)⟩
  all_goals exact ⟨_, rfl, BitVec.eq_of_toNat_eq (Eq.symm ‹_›)⟩

/-! ### The wires of a port and its row, in a parser state -/

/-- The wires that carry a well-formed instruction decode to it wherever its row is selected. -/
theorem decodeOp_encodeOp {v : RxView} {i : Instr} (hw : i.wellFormed = true) (hs : v.selects i = true) :
    decodeOp v (encodeOp i) = .ok i := by
  cases he : encodeOp i with
  | rx b => exact decodeRx_of_selects hw he hs
  | tx r =>
    obtain ⟨st, e, tg, rfl⟩ := Machine.eq_txEncode_of_port (congrArg PortOp.port he)
    cases he
    rfl
  | cmd c => exact congrArg Except.ok (decodeCmd_of_encodeOp he)

/-- What wires decode to is a well-formed row of their port that the parser state selects. -/
theorem decodeOp_ok {v : RxView} {o : PortOp} {i : Instr} (h : decodeOp v o = .ok i) :
    i.wellFormed = true ∧ v.selects i = true ∧ i.port = o.port := by
  cases o with
  | rx b =>
    obtain ⟨hw, he, hs⟩ := decodeRx_ok h
    exact ⟨hw, hs, congrArg PortOp.port he⟩
  | tx r =>
    cases h
    exact ⟨rfl, rfl, rfl⟩
  | cmd c =>
    cases h
    exact decodeCmd_selected c v

/-- On the receive and the transmit port no wire is ignored: the row stands on the very wires it was decoded from. -/
theorem encodeOp_of_decodeOp {v : RxView} {o : PortOp} {i : Instr} (h : decodeOp v o = .ok i)
    (ho : o.port ≠ .command) : encodeOp i = o := by
  cases o with
  | rx b =>
    obtain ⟨-, he, -⟩ := decodeRx_ok h
    exact he
  | tx r =>
    cases h
    rfl
  | cmd c => exact absurd rfl ho

/-! ### The bytes of a word and the wires (log 4) -/

theorem portOpOfBytes_bytesOfPortOp (o : PortOp) : portOpOfBytes o.port (bytesOfPortOp o) = .ok o := by
  cases o with
  | rx b => rfl
  | tx r => exact Laws.request_reads_back r
  | cmd c => exact Laws.command_reads_back c

theorem decodeBytes_bytesOfPortOp (v : RxView) (o : PortOp) :
    decodeBytes o.port v (bytesOfPortOp o) = decodeOp v o := by
  rw [decodeBytes, portOpOfBytes_bytesOfPortOp]

theorem bytesOfPortOp_length (o : PortOp) : (bytesOfPortOp o).length = portLength o.port := by
  cases o <;> rfl

/-- The wires read from a word carry every bit of it. -/
theorem portOpOfBytes_ok {p : Port} {bs : List Byte} {o : PortOp} (h : portOpOfBytes p bs = .ok o) :
    o.port = p ∧ bytesOfPortOp o = bs := by
  unfold portOpOfBytes at h
  split at h
  case h_1 =>
    cases h
    exact ⟨rfl, rfl⟩
  case h_2 =>
    split at h
    · rename_i hc
      cases h
      exact ⟨rfl, by simp only [bytesOfPortOp, lo8_join16, hi8_join16, hc]⟩
    · split at h <;> cases h
  case h_3 =>
    split at h
    · rename_i c d0 d1 d2 d3 n0 n1 n2 n3 hc
      cases h
      obtain ⟨hd0, hd1, hd2, hd3⟩ := byteOf_join32 d0 d1 d2 d3
      obtain ⟨hn0, hn1, hn2, hn3⟩ := byteOf_join32 n0 n1 n2 n3
      have hop : (c.setWidth 4).setWidth 8 = c :=
        BitVec.eq_of_toNat_eq (by simp only [BitVec.toNat_setWidth]; omega)
      exact ⟨rfl, by simp only [bytesOfPortOp, hop, hd0, hd1, hd2, hd3, hn0, hn1, hn2, hn3]⟩
    · cases h
  case h_4 => cases h

/-- What a word decodes to is what its wires decode to. -/
theorem decodeBytes_ok {p : Port} {v : RxView} {bs : List Byte} {i : Instr} (h : decodeBytes p v bs = .ok i) :
    ∃ o, o.port = p ∧ bytesOfPortOp o = bs ∧ decodeOp v o = .ok i := by
  rw [decodeBytes] at h
  split at h
  · rename_i o ho
    obtain ⟨hport, hbytes⟩ := portOpOfBytes_ok ho
    exact ⟨o, hport, hbytes, h⟩
  · cases h

/-! ### Words and instructions -/

/-- Settles O1: the bytes are read back as the wires (log 4), and the wires select the row (R84, R131). -/
theorem decodeOfEncodeIsTheInstruction : Obligations.DecodeOfEncodeIsTheInstruction := by
  intro v i hw hs
  calc decodeBytes i.port v (encode i)
      = decodeOp v (encodeOp i) := decodeBytes_bytesOfPortOp v (encodeOp i)
    _ = .ok i := decodeOp_encodeOp hw hs

/-- The first byte of the word of the row a command selects is the command's own: it holds cmd_op alone. -/
theorem head?_encode_decodeCmd (c : PidCommand) :
    (encode (decodeCmd c)).head? = (bytesOfPortOp (.cmd c)).head? := by
  obtain ⟨d, hd, hop⟩ := encodeOp_decodeCmd c
  rw [encode, hd]
  simp only [bytesOfPortOp, List.head?_cons, hop]

/-- Settles O2: the wires of the word account for its bits; on the command port the ignored operands are not in the
row, but cmd_op is. -/
theorem decodedBytesAreTheInstructionsWord : Obligations.DecodedBytesAreTheInstructionsWord := by
  refine ⟨fun p v bs i h => ?_, fun v c => decodeBytes_bytesOfPortOp v (.cmd c)⟩
  obtain ⟨o, rfl, rfl, ho⟩ := decodeBytes_ok h
  obtain ⟨hw, hs, hport⟩ := decodeOp_ok ho
  have hword : o.port ≠ .command → encode i = bytesOfPortOp o := fun hne =>
    congrArg bytesOfPortOp (encodeOp_of_decodeOp ho hne)
  refine ⟨hw, hs, hport, bytesOfPortOp_length o, hword, ?_, ?_⟩
  · cases o with
    | cmd c =>
      cases ho
      exact head?_encode_decodeCmd c
    | rx b => rw [hword nofun]
    | tx r => rw [hword nofun]
  · intro hcmd
    cases o with
    | cmd c =>
      cases ho
      exact ⟨c, rfl, rfl⟩
    | rx b => cases hcmd
    | tx r => cases hcmd

/-- A word written out decodes to the instruction whose word it is. -/
theorem decodeBytes_of_encode_eq {i : Instr} {bs : List Byte} {v : RxView} (hb : encode i = bs)
    (hw : i.wellFormed = true) (hs : v.selects i = true) : decodeBytes i.port v bs = .ok i :=
  hb ▸ decodeOfEncodeIsTheInstruction v i hw hs

/-- Settles O4: each of the seven is the word of its instruction, whose row the parser state selects. -/
theorem writtenOutWordsDecode : Obligations.WrittenOutWordsDecode :=
  ⟨decodeBytes_of_encode_eq (i := .rxSeekStart) rfl rfl rfl,
   decodeBytes_of_encode_eq (i := .rxBodySum 0x12) rfl rfl rfl,
   decodeBytes_of_encode_eq (i := .rxEndAccept) rfl rfl rfl,
   decodeBytes_of_encode_eq (i := .rxEndChkerr) rfl rfl rfl,
   decodeBytes_of_encode_eq (i := .txEncode 12 (-3) 7) rfl rfl rfl,
   decodeBytes_of_encode_eq (i := .pidUpdate 0x000A0000 20) rfl rfl rfl,
   decodeBytes_of_encode_eq (i := .pidWrKp 52429) rfl rfl rfl⟩

end Sys2Proof

namespace Sys2Proof.Machine

/-! ### A line of received bytes, step by step -/

/-- The receive side after the bytes of an RX line, one per step (R131). -/
def rxFeed (bs : List Byte) (r : RxUnit) : Option RxUnit := bs.foldlM (fun q b => rxAfter (some b) q) r

theorem rxFeed_nil (r : RxUnit) : rxFeed [] r = some r := rfl

theorem rxFeed_cons (b : Byte) (bs : List Byte) (r : RxUnit) :
    rxFeed (b :: bs) r = (rxAfter (some b) r).bind (rxFeed bs) := List.foldlM_cons

theorem rxFeed_append (as bs : List Byte) (r : RxUnit) : rxFeed (as ++ bs) r = (rxFeed as r).bind (rxFeed bs) :=
  List.foldlM_append

theorem rxFeed_cons_of_rxAfter {b : Byte} {r q : RxUnit} (h : rxAfter (some b) r = some q) (bs : List Byte) :
    rxFeed (b :: bs) r = rxFeed bs q := by
  rw [rxFeed_cons, h, Option.bind_some]

/-- A run over an RX line feeds its bytes to the receive side. -/
theorem runSteps_rxLine {bs : List Byte} {rest : List StepInput} {s : State} {q : RxUnit}
    (hin : s.inputs = rxLine bs ++ rest) (hq : rxFeed bs s.rx = some q) :
    ∃ t, runSteps bs.length s = .next t ∧ t.rx = q ∧ t.inputs = rest := by
  induction bs generalizing s with
  | nil =>
    rw [rxFeed_nil] at hq
    exact ⟨s, rfl, Option.some.inj hq, hin⟩
  | cons b bs ih =>
    rw [rxFeed_cons] at hq
    obtain ⟨r, hr, hq⟩ := Option.bind_eq_some_iff.1 hq
    have hnext : s.nextInput = { StepInput.idle with rx := some b } := by rw [State.nextInput, hin]; rfl
    have hrst : s.nextInput.rst = false := by rw [hnext]; rfl
    have hstep := step_of_rxAfter (s := s) hrst (by rw [hnext]; exact hr)
    rw [List.length_cons, runSteps_of_step hstep]
    exact ih (by rw [hin]; rfl) hq

/-! ### One frame in the receive side, by position (R132 to R139) -/

theorem rxAfter_startMarker {r : RxUnit} (hs : r.rxState = .seek) :
    rxAfter (some Config.startMarker) r = some r.startFrame := by
  simp [rxAfter, hs]

theorem rxAfter_body {r : RxUnit} (b : Byte) (hs : r.rxState = .body) (h1 : 1 ≤ r.rxIdx.val) (h5 : r.rxIdx.val ≤ 5) :
    rxAfter (some b) r = some (r.pushBody b) := by
  simp [rxAfter, hs, h1, h5]

theorem rxAfter_checksum {r : RxUnit} (b : Byte) (hs : r.rxState = .body) (h6 : r.rxIdx.val = 6) :
    rxAfter (some b) r = some (r.storeChk b) := by
  simp [rxAfter, hs, h6]

/-- In END every byte ends the frame: the event says whether the byte is the marker, and whether the sum matches. -/
theorem rxAfter_endMark {r : RxUnit} (b : Byte) (hs : r.rxState = .endMark) (h7 : r.rxIdx.val = 7) :
    ∃ q, rxAfter (some b) r = some q ∧ (q.rxEvent = .framingErr ↔ b ≠ Config.endMarker) ∧
      (q.rxEvent = .accept ↔ b = Config.endMarker ∧ r.rxBuf[6] = r.rxAcc) ∧
      (q.rxEvent = .checksumErr ↔ b = Config.endMarker ∧ r.rxBuf[6] ≠ r.rxAcc) := by
  by_cases hb : b = Config.endMarker
  · by_cases hc : r.rxAcc = r.rxBuf[6]
    · exact ⟨((r.loadSlots (decodeParams r.rxBuf)).countGood).toSeek .accept, by simp [rxAfter, hs, h7, hb, hc],
        by simp [hb, hc]⟩
    · exact ⟨r.countChk.toSeek .checksumErr, by simp [rxAfter, hs, h7, hb, hc], by simp [hb, Ne.symm hc]⟩
  · exact ⟨r.countFrm.toSeek .framingErr, by simp [rxAfter, hs, h7, hb], by simp [hb]⟩

/-! ### The bytes of the body, any number of them -/

/-- Body bytes stored one after another (R135). -/
def RxUnit.pushAll (r : RxUnit) (bs : List Byte) : RxUnit := bs.foldl RxUnit.pushBody r

theorem RxUnit.pushAll_cons (r : RxUnit) (b : Byte) (bs : List Byte) :
    r.pushAll (b :: bs) = (r.pushBody b).pushAll bs := rfl

@[simp] theorem RxUnit.pushAll_rxState (r : RxUnit) (bs : List Byte) : (r.pushAll bs).rxState = r.rxState := by
  induction bs generalizing r with
  | nil => rfl
  | cons b bs ih => exact ih (r.pushBody b)

theorem RxUnit.pushAll_rxIdx_val {r : RxUnit} {bs : List Byte} (h : r.rxIdx.val + bs.length ≤ 6) :
    (r.pushAll bs).rxIdx.val = r.rxIdx.val + bs.length := by
  induction bs generalizing r with
  | nil => rfl
  | cons b bs ih =>
    rw [List.length_cons] at h
    have hidx := RxUnit.pushBody_rxIdx_val (r := r) b (by omega)
    rw [RxUnit.pushAll_cons, ih (by omega), hidx, List.length_cons]
    omega

/-- R24: the accumulator takes the sum of the bytes stored. -/
@[simp] theorem RxUnit.pushAll_rxAcc (r : RxUnit) (bs : List Byte) : (r.pushAll bs).rxAcc = r.rxAcc + bs.sum := by
  induction bs generalizing r with
  | nil => simp [RxUnit.pushAll]
  | cons b bs ih => rw [RxUnit.pushAll_cons, ih, RxUnit.pushBody_rxAcc, List.sum_cons, add_assoc]

/-- Up to offset 5 every byte received in BODY is stored, whatever its value (R134, R135). -/
theorem rxFeed_body {r : RxUnit} {bs : List Byte} (hs : r.rxState = .body) (h1 : 1 ≤ r.rxIdx.val)
    (h6 : r.rxIdx.val + bs.length ≤ 6) : rxFeed bs r = some (r.pushAll bs) := by
  induction bs generalizing r with
  | nil => rfl
  | cons b bs ih =>
    rw [List.length_cons] at h6
    have hidx := RxUnit.pushBody_rxIdx_val (r := r) b (by omega)
    rw [rxFeed_cons_of_rxAfter (rxAfter_body b hs h1 (by omega))]
    exact ih hs (by omega) (by omega)

/-! ### A whole frame from SEEK -/

/-- The receive side that waits for the end marker of a frame with this body and this received checksum. -/
def RxUnit.collected (r : RxUnit) (body : List Byte) (chk : Byte) : RxUnit :=
  (r.startFrame.pushAll body).storeChk chk

/-- Offsets 0 to 6 of any frame, fed from SEEK, are collected. -/
theorem rxFeed_collected {r : RxUnit} {body : List Byte} (chk : Byte) (hs : r.rxState = .seek) (hlen : body.length = 5) :
    rxFeed (Config.startMarker :: (body ++ [chk])) r = some (r.collected body chk) := by
  have hidx : (r.startFrame.pushAll body).rxIdx.val = 6 := by
    rw [RxUnit.pushAll_rxIdx_val (by simp [hlen]), hlen, RxUnit.startFrame_rxIdx]
    rfl
  have hstate : (r.startFrame.pushAll body).rxState = .body := by simp
  rw [rxFeed_cons_of_rxAfter (rxAfter_startMarker hs), rxFeed_append, rxFeed_body rfl (by simp) (by simp [hlen]),
    Option.bind_some, rxFeed_cons_of_rxAfter (rxAfter_checksum chk hstate hidx), rxFeed_nil, RxUnit.collected]

@[simp] theorem RxUnit.collected_rxAcc (r : RxUnit) (body : List Byte) (chk : Byte) :
    (r.collected body chk).rxAcc = body.sum := by
  simp [RxUnit.collected]

@[simp] theorem RxUnit.collected_rxBuf_checksum (r : RxUnit) (body : List Byte) (chk : Byte) :
    (r.collected body chk).rxBuf[6] = chk := by
  simp [RxUnit.collected]

/-- What the parser reports of eight bytes that begin with the start marker, fed from SEEK: the last two decide. -/
theorem runSteps_frame_event {s : State} {body : List Byte} {chk e : Byte} {rest : List StepInput}
    (hs : s.rx.rxState = .seek) (hlen : body.length = 5)
    (hin : s.inputs = rxLine (Config.startMarker :: (body ++ [chk]) ++ [e]) ++ rest) :
    ∃ t, runSteps 8 s = .next t ∧ (t.rx.rxEvent = .framingErr ↔ e ≠ Config.endMarker) ∧
      (t.rx.rxEvent = .accept ↔ e = Config.endMarker ∧ chk = body.sum) ∧
      (t.rx.rxEvent = .checksumErr ↔ e = Config.endMarker ∧ chk ≠ body.sum) := by
  obtain ⟨q, hq, hevent⟩ := rxAfter_endMark (r := s.rx.collected body chk) e rfl rfl
  rw [RxUnit.collected_rxAcc, RxUnit.collected_rxBuf_checksum] at hevent
  have hfeed : rxFeed (Config.startMarker :: (body ++ [chk]) ++ [e]) s.rx = some q := by
    rw [rxFeed_append, rxFeed_collected chk hs hlen, Option.bind_some, rxFeed_cons_of_rxAfter hq, rxFeed_nil]
  obtain ⟨t, ht, rfl, -⟩ := runSteps_rxLine hin hfeed
  have height : (Config.startMarker :: (body ++ [chk]) ++ [e]).length = 8 := by simp [hlen]
  exact ⟨t, height ▸ ht, hevent⟩

/-! ### A telemetry frame on the receive port (R91, log 15) -/

theorem ofNat_sum_map_toNat (bs : List Byte) : BitVec.ofNat 8 (bs.map BitVec.toNat).sum = bs.sum := by
  induction bs with
  | nil => rfl
  | cons b bs ih => simp [BitVec.ofNat_add, ih]

/-- cks is the sum of bytes, modulo 256 by their width (R113). -/
theorem cks_eq_sum (f : List Byte) (a b : Nat) : cks f a b = ((f.drop a).take (b + 1 - a)).sum :=
  ofNat_sum_map_toNat _

/-- A 16-bit field is its two bytes (R85, R86). -/
theorem half_eq_iff {v w : Half} : v = w ↔ lo8 v = lo8 w ∧ hi8 v = hi8 w := by
  refine ⟨by rintro rfl; exact ⟨rfl, rfl⟩, fun ⟨hlo, hhi⟩ => ?_⟩
  rw [← join16_lo8_hi8 v, ← join16_lo8_hi8 w, hlo, hhi]

/-- Offsets 1 to 5 of a telemetry frame: its opcode and its first two operands. -/
def telemetryBody (st e : Half) : List Byte := [Config.telemOp, lo8 st, hi8 st, lo8 e, hi8 e]

theorem encodeTelemetry_take_eight (st e tg : Half) :
    (encodeTelemetry st e tg).toList.take 8 =
      Config.startMarker :: (telemetryBody st e ++ [lo8 tg]) ++ [hi8 tg] := rfl

theorem cks_encodeTelemetry (st e tg : Half) : cks (encodeTelemetry st e tg).toList 1 5 = (telemetryBody st e).sum :=
  cks_eq_sum _ 1 5

/-- The first eight bytes of a telemetry frame are an inbound frame exactly where its target angle's bytes are that
frame's checksum and end marker, and then of TELEM_OP and the first two operands. -/
theorem encodeTelemetry_take_eight_eq_encodeCommand_iff (st e tg : Half) (op : Byte) (p1 p2 : Half) :
    (encodeTelemetry st e tg).toList.take 8 = (encodeCommand op p1 p2).toList ↔
      (op = Config.telemOp ∧ p1 = st ∧ p2 = e) ∧
        hi8 tg = 0xA8 ∧ lo8 tg = cks (encodeTelemetry st e tg).toList 1 5 := by
  have hcmd : (encodeCommand op p1 p2).toList = [Config.startMarker, op, lo8 p1, hi8 p1, lo8 p2, hi8 p2,
      cks (commandHead op p1 p2) 1 5, Config.endMarker] := rfl
  have hcks : cks (commandHead Config.telemOp st e) 1 5 = cks (encodeTelemetry st e tg).toList 1 5 := rfl
  rw [encodeTelemetry_take_eight, hcmd]
  constructor
  · intro h
    simp only [telemetryBody, List.cons_append, List.nil_append, List.cons.injEq, true_and, and_true] at h
    obtain ⟨rfl, hlo1, hhi1, hlo2, hhi2, hsum, hend⟩ := h
    obtain rfl := half_eq_iff.2 ⟨hlo1, hhi1⟩
    obtain rfl := half_eq_iff.2 ⟨hlo2, hhi2⟩
    exact ⟨⟨rfl, rfl, rfl⟩, hend, hsum⟩
  · rintro ⟨⟨rfl, rfl, rfl⟩, hend, hsum⟩
    rw [hcks, ← hsum, hend]
    rfl

/-- Settles O35: offsets 6 and 7 of the frame are the bytes of the target angle, and they decide. -/
theorem telemetryFrameOnTheReceivePort : Obligations.TelemetryFrameOnTheReceivePort := by
  refine ⟨fun s st e tg rest hs hin => ?_, encodeTelemetry_take_eight_eq_encodeCommand_iff⟩
  rw [encodeTelemetry_take_eight] at hin
  rw [cks_encodeTelemetry]
  exact runSteps_frame_event hs rfl hin

end Sys2Proof.Machine

/-! ## The wire codec: the telemetry frame, the round trips, and what the checksum sees (40_wire_codec) -/

namespace Sys2Proof.Machine

/-! ### The checksum under a change of one summed byte (R113, R120) -/

/-- The summed range of a sequence with one byte of that range changed. -/
theorem summedRange_set {f : List Byte} {a b k : Nat} (v : Byte) (ha : a ≤ k) :
    ((f.set k v).drop a).take (b + 1 - a) = ((f.drop a).take (b + 1 - a)).set (k - a) v := by
  rw [List.drop_set, if_neg (Nat.not_lt.2 ha), List.take_set]

/-- One changed byte inside the summed range moves the checksum by the difference of the two bytes, modulo 256. -/
theorem cks_set {f : List Byte} {a b k : Nat} (v : Byte) (ha : a ≤ k) (hb : k ≤ b) (hk : k < f.length) :
    cks (f.set k v) a b = cks f a b + (-f[k] + v) := by
  have hin : k - a < ((f.drop a).take (b + 1 - a)).length := by
    rw [List.length_take, List.length_drop]
    omega
  have hget : ((f.drop a).take (b + 1 - a))[k - a] = f[k] := by
    simp only [List.getElem_take, List.getElem_drop, Nat.add_sub_cancel' ha]
  rw [cks_eq_sum, cks_eq_sum, summedRange_set v ha, List.sum_set', dif_pos hin, hget]

/-- Settles O39: the checksum moves by the difference of the bytes, which is not 0. -/
theorem checksumSeesOneChangedByte : Obligations.ChecksumSeesOneChangedByte := by
  intro f a b k v ha hb hk hne heq
  rw [cks_set v ha hb hk] at heq
  have hdiff : -f[k] + v = 0 := add_eq_left.1 heq
  exact hne (neg_add_eq_zero.1 hdiff).symm

/-! ### The telemetry frame (R111, R112) -/

theorem lo8_toNat (v : Half) : (lo8 v).toNat = v.toNat % 256 := by
  simp [lo8]

theorem hi8_toNat (v : Half) : (hi8 v).toNat = v.toNat / 256 := by
  have hv : v.toNat / 256 < 256 := by omega
  simp [hi8, Nat.shiftRight_eq_div_pow, Nat.mod_eq_of_lt hv]

/-- The checksum byte of a telemetry frame: TELEM_OP and the two bytes of each value, summed (R112, R113). -/
theorem cks_telemetryHead (st e tg : Half) :
    cks (telemetryHead st e tg) 1 7 =
      BitVec.ofNat 8 (1 + (st.toNat % 256 + st.toNat / 256) + (e.toNat % 256 + e.toNat / 256)
        + (tg.toNat % 256 + tg.toNat / 256)) := by
  have hbytes : ((telemetryHead st e tg).drop 1).take (7 + 1 - 1) =
      [Config.telemOp, lo8 st, hi8 st, lo8 e, hi8 e, lo8 tg, hi8 tg] := rfl
  have hop : Config.telemOp.toNat = 1 := rfl
  rw [cks, hbytes]
  simp only [List.map_cons, List.map_nil, List.sum_cons, List.sum_nil, hop, lo8_toNat, hi8_toNat]
  congr 1
  omega

/-- Settles O37: what TX.ENCODE latches is `encodeTelemetry`, whose checksum byte is the sum of R112. -/
theorem txEncodeLatchesTheTelemetryFrame : Obligations.TxEncodeLatchesTheTelemetryFrame := by
  intro s st e tg
  refine ⟨s.withTx (s.tx.latch (encodeTelemetry st e tg)), exec_transmit st e tg s, ?_, ⟨?_, ?_, ?_⟩, ?_⟩
  · rw [State.withTx_tx, TxUnit.latch_txValid]
  · exact s.withTx_rx _
  · exact s.withTx_pid _
  · exact s.withTx_inputs _
  · rw [State.withTx_tx, TxUnit.latch_txFrame, ← cks_telemetryHead]
    rfl

/-! ### The round trips (R118) -/

/-- A telemetry frame decodes to the three values it was made of. -/
theorem decodeTelemetry_encodeTelemetry (s e t : Half) :
    decodeTelemetry (encodeTelemetry s e t) = { ok := true, steer := s, err := e, tgt := t } := by
  have hfields : decodeTelemetry (encodeTelemetry s e t) =
      { ok := (decodeTelemetry (encodeTelemetry s e t)).ok, steer := join16 (lo8 s) (hi8 s),
        err := join16 (lo8 e) (hi8 e), tgt := join16 (lo8 t) (hi8 t) } := rfl
  rw [hfields, decodeTelemetry_encodeTelemetry_ok, join16_lo8_hi8, join16_lo8_hi8, join16_lo8_hi8]

/-- A command frame decodes to its opcode and to both views of its parameters. -/
theorem decodeParams_encodeCommand (op : Byte) (p1 p2 : Half) :
    decodeParams (encodeCommand op p1 p2) = { opcode := op, int1 := p1, int2 := p2, fbits := floatView p1 p2 } := by
  have hfields : decodeParams (encodeCommand op p1 p2) =
      { opcode := op, int1 := join16 (lo8 p1) (hi8 p1), int2 := join16 (lo8 p2) (hi8 p2),
        fbits := join32 (lo8 p1) (hi8 p1) (lo8 p2) (hi8 p2) } := rfl
  rw [hfields, join32_eq_floatView, join16_lo8_hi8, join16_lo8_hi8]

/-- Settles O38: each frame's fields are joined again from the bytes they were split into. -/
theorem codecRoundTrips : Obligations.CodecRoundTrips :=
  ⟨decodeTelemetry_encodeTelemetry, decodeParams_encodeCommand⟩

end Sys2Proof.Machine

/-! ## The rows of the Link State Machine: when each is selected, what it writes and what it keeps (41_link_fsm) -/

namespace Sys2Proof.Machine

/-! ### When a receive row is selected, and what it then does (R131) -/

theorem RxUnit.selects_rxSeekStart_iff {r : RxUnit} : r.view.selects .rxSeekStart = true ↔ r.rxState = .seek :=
  beq_iff_eq

theorem RxUnit.selects_rxSeekDiscard_iff {r : RxUnit} (b : Byte) :
    r.view.selects (.rxSeekDiscard b) = true ↔ r.rxState = .seek :=
  beq_iff_eq

theorem RxUnit.selects_rxBodySum_iff {r : RxUnit} (b : Byte) :
    r.view.selects (.rxBodySum b) = true ↔ r.rxState = .body ∧ 1 ≤ r.rxIdx.val ∧ r.rxIdx.val ≤ 5 := by
  simp only [RxView.selects, Bool.and_eq_true, beq_iff_eq, decide_eq_true_iff, and_assoc]
  rfl

theorem RxUnit.selects_rxBodyChk_iff {r : RxUnit} (b : Byte) :
    r.view.selects (.rxBodyChk b) = true ↔ r.rxState = .body ∧ r.rxIdx.val = 6 := by
  simp only [RxView.selects, Bool.and_eq_true, beq_iff_eq, decide_eq_true_iff]
  rfl

theorem RxUnit.selects_rxEndAccept_iff {r : RxUnit} :
    r.view.selects .rxEndAccept = true ↔ r.rxState = .endMark ∧ r.rxIdx.val = 7 ∧ r.rxAcc = r.rxBuf[6] := by
  simp only [RxView.selects, Bool.and_eq_true, beq_iff_eq, decide_eq_true_iff, and_assoc]
  rfl

theorem RxUnit.selects_rxEndChkerr_iff {r : RxUnit} :
    r.view.selects .rxEndChkerr = true ↔ r.rxState = .endMark ∧ r.rxIdx.val = 7 ∧ r.rxAcc ≠ r.rxBuf[6] := by
  simp only [RxView.selects, Bool.and_eq_true, beq_iff_eq, bne_iff_ne, decide_eq_true_iff, and_assoc]
  rfl

theorem RxUnit.selects_rxEndFramerr_iff {r : RxUnit} (b : Byte) :
    r.view.selects (.rxEndFramerr b) = true ↔ r.rxState = .endMark ∧ r.rxIdx.val = 7 := by
  simp only [RxView.selects, Bool.and_eq_true, beq_iff_eq, decide_eq_true_iff]
  rfl

theorem wellFormed_rxSeekDiscard {b : Byte} (h : b ≠ Config.startMarker) :
    (Instr.rxSeekDiscard b).wellFormed = true :=
  bne_iff_ne.2 h

theorem wellFormed_rxEndFramerr {b : Byte} (h : b ≠ Config.endMarker) : (Instr.rxEndFramerr b).wellFormed = true :=
  bne_iff_ne.2 h

/-- A receive row whose condition holds makes its writes on the receive side (R132 to R139). -/
theorem exec_receive_of_selected {i : Instr} {s : State} (hport : i.port = .receive) (hw : i.wellFormed = true)
    (hs : s.rx.view.selects i = true) : exec i s = .next (s.withRx (rxEffect i s.rx)) := by
  rw [exec_receive hport, whenSelected_of _ hw hs]

/-- Settles O15: exec of a receive row is `whenSelected`, which refuses where the row's condition does not hold. -/
theorem unselectedReceiveRowIsRefused : Obligations.UnselectedReceiveRowIsRefused := by
  intro i s hport hsel
  rw [exec_receive hport, whenSelected_of_not_selected _ hsel]

/-- R23, by parser state; BODY in two, as R131 splits it. -/
theorem RxUnit.indexed_cases {r : RxUnit} (h : r.indexed) :
    (r.rxState = .seek ∧ r.rxIdx.val = 0) ∨ (r.rxState = .body ∧ 1 ≤ r.rxIdx.val ∧ r.rxIdx.val ≤ 5) ∨
      (r.rxState = .body ∧ r.rxIdx.val = 6) ∨ (r.rxState = .endMark ∧ r.rxIdx.val = 7) := by
  unfold RxUnit.indexed at h
  cases hs : r.rxState <;> simp only [hs] at h
  case seek => exact .inl ⟨rfl, h⟩
  case body =>
    obtain ⟨h1, h6⟩ := h
    rcases h6.lt_or_eq with h5 | h6
    · exact .inr (.inl ⟨rfl, h1, Nat.le_of_lt_succ h5⟩)
    · exact .inr (.inr (.inl ⟨rfl, h6⟩))
  case endMark => exact .inr (.inr (.inr ⟨rfl, h⟩))

/-- In every parser state of R23 every byte has a row: the decoder answers it. -/
theorem decodeRx_of_indexed {r : RxUnit} (b : Byte) (h : r.indexed) : ∃ i, decodeRx r.view b = .ok i := by
  rcases RxUnit.indexed_cases h with ⟨hs, -⟩ | hbody | hchk | ⟨hs, h7⟩
  · by_cases hb : b = Config.startMarker
    · subst hb
      exact ⟨_, decodeRx_of_selects (i := .rxSeekStart) rfl rfl (RxUnit.selects_rxSeekStart_iff.2 hs)⟩
    · exact ⟨_, decodeRx_of_selects (wellFormed_rxSeekDiscard hb) rfl ((RxUnit.selects_rxSeekDiscard_iff b).2 hs)⟩
  · exact ⟨_, decodeRx_of_selects rfl rfl ((RxUnit.selects_rxBodySum_iff b).2 hbody)⟩
  · exact ⟨_, decodeRx_of_selects rfl rfl ((RxUnit.selects_rxBodyChk_iff b).2 hchk)⟩
  · by_cases hb : b = Config.endMarker
    · subst hb
      by_cases hacc : r.rxAcc = r.rxBuf[6]
      · exact ⟨_, decodeRx_of_selects (i := .rxEndAccept) rfl rfl (RxUnit.selects_rxEndAccept_iff.2 ⟨hs, h7, hacc⟩)⟩
      · exact ⟨_, decodeRx_of_selects (i := .rxEndChkerr) rfl rfl (RxUnit.selects_rxEndChkerr_iff.2 ⟨hs, h7, hacc⟩)⟩
    · exact ⟨_, decodeRx_of_selects (wellFormed_rxEndFramerr hb) rfl ((RxUnit.selects_rxEndFramerr_iff b).2 ⟨hs, h7⟩)⟩

/-- Settles O3: the decoder answers a row, and every row whose condition holds is what the decoder answers. -/
theorem receivedByteTakesExactlyOneRow : Obligations.ReceivedByteTakesExactlyOneRow := by
  intro r b hidx
  obtain ⟨i, hi⟩ := decodeRx_of_indexed b hidx
  obtain ⟨hw, henc, hsel⟩ := decodeRx_ok hi
  refine ⟨i, hi, hw, henc, hsel, fun j hwj hencj hselj => ?_⟩
  exact Except.ok.inj ((decodeRx_of_selects hwj hencj hselj).symm.trans hi)

/-! ### Each row's writes and its frame (R132 to R139) -/

/-- A buffer byte other than the one written is kept. -/
theorem rxBuf_set_of_ne {buf : Vector Byte 8} {i : Nat} (v : Byte) (hi : i < 8) {j : Fin 8} (h : j.val ≠ i) :
    (buf.set i v hi)[j] = buf[j] :=
  Vector.getElem_set_ne hi j.isLt h.symm

/-- Settles O23: the row's writes are `startFrame`, and every clause is a field of it. -/
theorem seekStartTakesTheMarker : Obligations.SeekStartTakesTheMarker := by
  intro s hs
  have hexec := exec_receive_of_selected (i := .rxSeekStart) rfl rfl (RxUnit.selects_rxSeekStart_iff.2 hs)
  exact ⟨_, hexec, Vector.getElem_set_self _, fun j hj => rxBuf_set_of_ne _ (by decide) hj, rfl, rfl, rfl, rfl,
    ⟨rfl, rfl, rfl, rfl⟩, ⟨rfl, rfl, rfl⟩, rfl, rfl, rfl⟩

/-- Settles O24: the row's only write is `setEvent`. -/
theorem seekDiscardWritesOnlyTheEvent : Obligations.SeekDiscardWritesOnlyTheEvent := by
  intro s b hs hb
  exact exec_receive_of_selected rfl (wellFormed_rxSeekDiscard hb) ((RxUnit.selects_rxSeekDiscard_iff b).2 hs)

/-- Settles O25: the row's writes are `pushBody`; the index does not wrap, for it is at most 5. -/
theorem bodyByteIsStoredAndSummed : Obligations.BodyByteIsStoredAndSummed := by
  intro s b hs h1 h5
  have hexec := exec_receive_of_selected (i := .rxBodySum b) rfl rfl ((RxUnit.selects_rxBodySum_iff b).2 ⟨hs, h1, h5⟩)
  exact ⟨_, hexec, Vector.getElem_set_self _, fun j hj => rxBuf_set_of_ne b s.rx.rxIdx.isLt (Fin.val_ne_of_ne hj),
    BitVec.toNat_add _ _, RxUnit.pushBody_rxIdx_val b h5, hs, rfl,
    ⟨rfl, rfl, rfl, rfl⟩, ⟨rfl, rfl, rfl⟩, rfl, rfl, rfl⟩

/-- Settles O26: the row's writes are `storeChk`, RX_ACC not among them. -/
theorem checksumByteIsStoredNotSummed : Obligations.ChecksumByteIsStoredNotSummed := by
  intro s b hs h6
  have hexec := exec_receive_of_selected (i := .rxBodyChk b) rfl rfl ((RxUnit.selects_rxBodyChk_iff b).2 ⟨hs, h6⟩)
  exact ⟨_, hexec, Vector.getElem_set_self _, fun j hj => rxBuf_set_of_ne b (by decide) hj, rfl, rfl, rfl, rfl,
    ⟨rfl, rfl, rfl, rfl⟩, ⟨rfl, rfl, rfl⟩, rfl, rfl, rfl⟩

/-- Settles O27: the slots are `decodeParams` of the buffer (R114). -/
theorem endMarkerWithMatchAccepts : Obligations.EndMarkerWithMatchAccepts := by
  intro s hs h7 hacc
  have hexec :=
    exec_receive_of_selected (i := .rxEndAccept) rfl rfl (RxUnit.selects_rxEndAccept_iff.2 ⟨hs, h7, hacc⟩)
  exact ⟨_, hexec, rfl, rfl, rfl, rfl, countUp_toNat _, rfl, rfl, rfl, rfl, rfl, rfl, rfl, rfl, rfl, rfl⟩

/-- Settles O28: the row's writes are `countChk`, then `toSeek`. -/
theorem endMarkerWithMismatchIsChecksumError : Obligations.EndMarkerWithMismatchIsChecksumError := by
  intro s hs h7 hacc
  have hexec :=
    exec_receive_of_selected (i := .rxEndChkerr) rfl rfl (RxUnit.selects_rxEndChkerr_iff.2 ⟨hs, h7, hacc⟩)
  exact ⟨_, hexec, countUp_toNat _, rfl, rfl, rfl, rfl, rfl, rfl, rfl, ⟨rfl, rfl, rfl, rfl⟩, rfl, rfl, rfl⟩

/-- Settles O29: the row's writes are `countFrm`, then `toSeek`. -/
theorem otherByteInEndIsFramingError : Obligations.OtherByteInEndIsFramingError := by
  intro s b hs h7 hb
  have hexec :=
    exec_receive_of_selected rfl (wellFormed_rxEndFramerr hb) ((RxUnit.selects_rxEndFramerr_iff b).2 ⟨hs, h7⟩)
  exact ⟨_, hexec, countUp_toNat _, rfl, rfl, rfl, rfl, rfl, rfl, rfl, ⟨rfl, rfl, rfl, rfl⟩, rfl, rfl, rfl⟩

end Sys2Proof.Machine

/-! ## The receive port step by step: no byte, a byte with no row, a byte in END (R131, R140, R145) -/

namespace Sys2Proof.Machine

/-! ### Where the receive port has no transition -/

/-- The pairs to which R131 gives no transition. -/
theorem rxAfter_eq_none_iff {r : RxUnit} (b : Byte) :
    rxAfter (some b) r = none ↔
      (r.rxState = .body ∧ (r.rxIdx.val = 0 ∨ r.rxIdx.val = 7)) ∨ (r.rxState = .endMark ∧ r.rxIdx.val ≠ 7) := by
  cases hs : r.rxState with
  | seek => simp [rxAfter, hs]
  | body =>
    simp only [rxAfter, hs]
    split_ifs with h5 h6
    · simp; omega
    · simp; omega
    · simp; omega
  | endMark => simp [rxAfter, hs]

/-- In every parser state of R23 the receive port has a transition, with a byte or without. -/
theorem rxAfter_of_indexed {r : RxUnit} (x : Option Byte) (h : r.indexed) : ∃ q, rxAfter x r = some q := by
  cases x with
  | none => exact ⟨_, rfl⟩
  | some b =>
    refine Option.ne_none_iff_exists'.1 fun hnone => ?_
    rcases (rxAfter_eq_none_iff b).1 hnone with ⟨hs, hidx⟩ | ⟨hs, hidx⟩
    · simp only [RxUnit.indexed, hs] at h
      omega
    · simp only [RxUnit.indexed, hs] at h
      exact hidx h

/-- Settles O14: the pairs of the premise are those where the receive port has no transition. -/
theorem unreachableParserPairFaults : Obligations.UnreachableParserPairFaults := by
  intro s x b rest hin hrst hx hpair
  have hnext : s.nextInput = x := by rw [State.nextInput, hin, List.headD_cons]
  have hnone : rxAfter s.nextInput.rx s.rx = none := by rw [hnext, hx, (rxAfter_eq_none_iff b).2 hpair]
  rw [step_eq, if_neg (by simp [hnext, hrst]), hnone]

/-! ### Ports that carry nothing -/

/-- Settles O11: the step puts the three ports side by side, and each idle port is its own pulse. -/
theorem idlePortsWriteOnlyTheirPulse : Obligations.IdlePortsWriteOnlyTheirPulse := by
  intro s hidx hrst
  obtain ⟨q, hq⟩ := rxAfter_of_indexed s.nextInput.rx hidx
  refine ⟨_, step_of_rxAfter hrst hq, fun hrx => ?_, fun htx => ?_, fun hcmd => ?_, rfl⟩
  · rw [hrx] at hq
    exact (Option.some.inj hq).symm
  · simp only [htx]
    rfl
  · simp only [hcmd]
    rfl

/-- What holds of the next `n + 1` listed inputs holds of the next input and of the `n` after it; the idle input, which
comes where none is listed (log 1), must have it too. -/
theorem State.nextInput_of_take {P : StepInput → Prop} {s : State} {n : Nat} (hidle : P .idle)
    (h : ∀ x ∈ s.inputs.take (n + 1), P x) : P s.nextInput ∧ ∀ x ∈ s.inputs.tail.take n, P x := by
  unfold State.nextInput
  cases hin : s.inputs with
  | nil => simpa using hidle
  | cons x xs => simpa [hin] using h

/-- Steps without a byte write RX_EVENT alone of the receive side, however many there are (R131, R145). -/
theorem runSteps_without_byte {n : Nat} {s : State} (h : ∀ x ∈ s.inputs.take n, x.rst = false ∧ x.rx = none) :
    ∃ t e, runSteps n s = .next t ∧ t.rx = s.rx.setEvent e := by
  induction n generalizing s with
  | zero => exact ⟨s, s.rx.rxEvent, rfl, rfl⟩
  | succ n ih =>
    obtain ⟨⟨hrst, hrx⟩, hrest⟩ := State.nextInput_of_take ⟨rfl, rfl⟩ h
    have hstep := step_of_rxAfter (r := s.rx.setEvent .none) hrst (by rw [hrx]; rfl)
    rw [runSteps_of_step hstep]
    exact ih hrest

/-- Settles O12: by induction over the steps, only RX_EVENT of the receive side is new. -/
theorem noTimeoutInTheParser : Obligations.NoTimeoutInTheParser := by
  intro n s h
  obtain ⟨t, e, ht, he⟩ := runSteps_without_byte h
  exact ⟨t, ht, RxUnit.eq_setEvent_iff.1 (by rw [he, RxUnit.setEvent_rxEvent])⟩

/-! ### A byte in END: one lemma per row (R137, R138, R139) -/

theorem rxAfter_accept {r : RxUnit} (hs : r.rxState = .endMark) (h7 : r.rxIdx.val = 7) (hacc : r.rxAcc = r.rxBuf[6]) :
    rxAfter (some Config.endMarker) r =
      some (((r.loadSlots (decodeParams r.rxBuf)).countGood).toSeek .accept) := by
  simp [rxAfter, hs, h7, hacc]

theorem rxAfter_checksumErr {r : RxUnit} (hs : r.rxState = .endMark) (h7 : r.rxIdx.val = 7)
    (hacc : r.rxAcc ≠ r.rxBuf[6]) :
    rxAfter (some Config.endMarker) r = some (r.countChk.toSeek .checksumErr) := by
  simp [rxAfter, hs, h7, hacc]

theorem rxAfter_framingErr {r : RxUnit} {b : Byte} (hs : r.rxState = .endMark) (h7 : r.rxIdx.val = 7)
    (hb : b ≠ Config.endMarker) : rxAfter (some b) r = some (r.countFrm.toSeek .framingErr) := by
  simp [rxAfter, hs, h7, hb]

/-- Every byte in END brings the parser back to SEEK. -/
theorem rxAfter_endMark_rxState {r : RxUnit} (b : Byte) (hs : r.rxState = .endMark) (h7 : r.rxIdx.val = 7) :
    ∃ q, rxAfter (some b) r = some q ∧ q.rxState = .seek := by
  by_cases hb : b = Config.endMarker
  · subst hb
    by_cases hacc : r.rxAcc = r.rxBuf[6]
    · exact ⟨_, rxAfter_accept hs h7 hacc, rfl⟩
    · exact ⟨_, rxAfter_checksumErr hs h7 hacc, rfl⟩
  · exact ⟨_, rxAfter_framingErr hs h7 hb, rfl⟩

/-- A step that is offered one byte alone. -/
theorem step_rxLine {s : State} {b : Byte} {rest : List StepInput} {q : RxUnit} (hin : s.inputs = rxLine [b] ++ rest)
    (hq : rxAfter (some b) s.rx = some q) : ∃ t, step s = .next t ∧ t.rx = q ∧ t.inputs = rest := by
  obtain ⟨t, ht, hrx, hrest⟩ := runSteps_rxLine hin ((rxFeed_cons_of_rxAfter hq []).trans (rxFeed_nil q))
  have hone : runSteps 1 s = step s := (runSteps_succ 0 s).trans (andThen_next_right (step s))
  exact ⟨t, hone ▸ ht, hrx, hrest⟩

/-- Settles O30: the three rows of END in the order of R140's tests. -/
theorem frameEndMovesExactlyOneCounter : Obligations.FrameEndMovesExactlyOneCounter := by
  intro s b rest hs h7 hin
  by_cases hb : b = 0xA8
  · subst hb
    by_cases hacc : s.rx.rxAcc = s.rx.rxBuf[6]
    · obtain ⟨t, ht, hrx, -⟩ := step_rxLine hin (rxAfter_accept hs h7 hacc)
      refine ⟨t, ht, by rw [hrx]; rfl, ?_⟩
      rw [if_neg (not_not.2 rfl), if_neg (not_not.2 hacc), hrx]
      exact ⟨rfl, rfl, rfl, rfl⟩
    · obtain ⟨t, ht, hrx, -⟩ := step_rxLine hin (rxAfter_checksumErr hs h7 hacc)
      refine ⟨t, ht, by rw [hrx]; rfl, ?_⟩
      rw [if_neg (not_not.2 rfl), if_pos hacc, hrx]
      exact ⟨rfl, rfl, rfl, rfl⟩
  · obtain ⟨t, ht, hrx, -⟩ := step_rxLine hin (rxAfter_framingErr hs h7 hb)
    refine ⟨t, ht, by rw [hrx]; rfl, ?_⟩
    rw [if_pos hb, hrx]
    exact ⟨rfl, rfl, rfl, rfl⟩

end Sys2Proof.Machine

/-! ## Whole frames on the receive port: the boundary, acceptance, corruption (R134, R141, R142, R143)

A frame fed from SEEK is the start marker, five body bytes, the received checksum and an eighth byte. Up to the seventh
byte nothing is reported or counted; the eighth byte is one of the rows of END in `RxUnit.collected`. -/

namespace Sys2Proof.Machine

/-! ### Inside a frame -/

/-- `q` is inside a frame that began in `r`: not in SEEK, no event, slots and counters as they were. -/
def RxUnit.insideFrame (r q : RxUnit) : Prop :=
  q.rxState ≠ .seek ∧ q.rxEvent = .none ∧ r.sameSlots q ∧ r.sameCounters q

theorem RxUnit.startFrame_insideFrame (r : RxUnit) : r.insideFrame r.startFrame :=
  ⟨nofun, rfl, ⟨rfl, rfl, rfl, rfl⟩, ⟨rfl, rfl, rfl⟩⟩

theorem RxUnit.insideFrame.pushBody {r q : RxUnit} (h : r.insideFrame q) (b : Byte) : r.insideFrame (q.pushBody b) := by
  obtain ⟨hstate, -, hslots, hcounters⟩ := h
  exact ⟨hstate, rfl, hslots, hcounters⟩

theorem RxUnit.insideFrame.pushAll {r q : RxUnit} (h : r.insideFrame q) (bs : List Byte) :
    r.insideFrame (q.pushAll bs) := by
  induction bs generalizing q with
  | nil => exact h
  | cons b bs ih => exact ih (h.pushBody b)

theorem RxUnit.insideFrame.storeChk {r q : RxUnit} (h : r.insideFrame q) (b : Byte) : r.insideFrame (q.storeChk b) := by
  obtain ⟨-, -, hslots, hcounters⟩ := h
  exact ⟨nofun, rfl, hslots, hcounters⟩

theorem RxUnit.collected_insideFrame (r : RxUnit) (body : List Byte) (chk : Byte) :
    r.insideFrame (r.collected body chk) :=
  (r.startFrame_insideFrame.pushAll body).storeChk chk

/-- Up to the seventh byte the parser stays inside the frame, whatever the bytes are. -/
theorem rxFeed_insideFrame {r : RxUnit} {bs : List Byte} (hs : r.rxState = .seek) (hlen : bs.length ≤ 6) :
    ∃ q, rxFeed (Config.startMarker :: bs) r = some q ∧ r.insideFrame q := by
  rcases hlen.lt_or_eq with hlt | heq
  · refine ⟨r.startFrame.pushAll bs, ?_, r.startFrame_insideFrame.pushAll bs⟩
    have hidx : r.startFrame.rxIdx.val + bs.length ≤ 6 := by
      rw [RxUnit.startFrame_rxIdx]
      omega
    rw [rxFeed_cons_of_rxAfter (rxAfter_startMarker hs), rxFeed_body r.startFrame_rxState (by simp) hidx]
  · have hsplit : bs = bs.take 5 ++ [bs[5]] := by
      rw [List.take_append_getElem, List.take_of_length_le (by omega)]
    refine ⟨r.collected (bs.take 5) bs[5], ?_, r.collected_insideFrame _ _⟩
    conv_lhs => rw [hsplit]
    exact rxFeed_collected bs[5] hs (by rw [List.length_take, heq]; rfl)

/-- A run over the first `n` bytes of an RX line. -/
theorem runSteps_rxLine_take {bs : List Byte} {rest : List StepInput} {s : State} {n : Nat} {q : RxUnit}
    (hin : s.inputs = rxLine bs ++ rest) (hn : n ≤ bs.length) (hq : rxFeed (bs.take n) s.rx = some q) :
    ∃ t, runSteps n s = .next t ∧ t.rx = q := by
  have hline : rxLine bs = rxLine (bs.take n) ++ rxLine (bs.drop n) := by
    rw [rxLine, rxLine, rxLine, ← List.map_append, List.take_append_drop]
  rw [hline, List.append_assoc] at hin
  obtain ⟨t, ht, hrx, -⟩ := runSteps_rxLine hin hq
  rw [List.length_take, Nat.min_eq_left hn] at ht
  exact ⟨t, ht, hrx⟩

/-- The steps of a frame's first seven bytes. -/
theorem runSteps_insideFrame {s : State} {bs : List Byte} {rest : List StepInput} {k : Nat} (hs : s.rx.rxState = .seek)
    (hlen : bs.length = 7) (hin : s.inputs = rxLine (Config.startMarker :: bs) ++ rest) (h1 : 1 ≤ k) (h7 : k ≤ 7) :
    ∃ t, runSteps k s = .next t ∧ s.rx.insideFrame t.rx := by
  obtain ⟨n, rfl⟩ := Nat.exists_eq_add_of_le' h1
  have htake : (bs.take n).length ≤ 6 := by
    rw [List.length_take]
    omega
  obtain ⟨q, hq, hinside⟩ := rxFeed_insideFrame hs htake
  obtain ⟨t, ht, rfl⟩ := runSteps_rxLine_take (n := n + 1) hin (by rw [List.length_cons]; omega) hq
  exact ⟨t, ht, hinside⟩

/-! ### The eighth byte -/

/-- Eight bytes as the parser takes them apart: the start marker, the body, the received checksum, the last byte. -/
def eightBytes (body : List Byte) (chk e : Byte) : List Byte := Config.startMarker :: (body ++ [chk] ++ [e])

/-- A run over eight such bytes ends in what the last one makes of the collected frame. -/
theorem runSteps_eightBytes {s : State} {body : List Byte} {chk e : Byte} {rest : List StepInput} {q : RxUnit}
    (hs : s.rx.rxState = .seek) (hlen : body.length = 5) (hin : s.inputs = rxLine (eightBytes body chk e) ++ rest)
    (hq : rxAfter (some e) (s.rx.collected body chk) = some q) :
    ∃ t, runSteps 8 s = .next t ∧ t.rx = q ∧ t.inputs = rest := by
  have hfeed : rxFeed (eightBytes body chk e) s.rx = some q := by
    rw [eightBytes, ← List.cons_append, rxFeed_append, rxFeed_collected chk hs hlen, Option.bind_some,
      rxFeed_cons_of_rxAfter hq, rxFeed_nil]
  have height : (eightBytes body chk e).length = 8 := by simp [eightBytes, hlen]
  exact height ▸ runSteps_rxLine hin hfeed

/-- Seven bytes are a body, a received checksum and a last byte. -/
theorem eq_append_of_length_eq_seven {bs : List Byte} (h : bs.length = 7) :
    ∃ body chk e, body.length = 5 ∧ bs = body ++ [chk] ++ [e] := by
  refine ⟨bs.take 5, bs[5], bs[6], by rw [List.length_take, h]; rfl, ?_⟩
  rw [List.take_append_getElem, List.take_append_getElem, List.take_of_length_le (by omega)]

/-- Settles O31: inside the frame up to the seventh byte; in END every byte, whatever its value, leads back to SEEK. -/
theorem frameBoundaryIsSevenBytesAfterTheStart : Obligations.FrameBoundaryIsSevenBytesAfterTheStart := by
  intro s bs rest hs hlen hin
  constructor
  · obtain ⟨body, chk, e, hbody, rfl⟩ := eq_append_of_length_eq_seven hlen
    obtain ⟨q, hq, hseek⟩ := rxAfter_endMark_rxState (r := s.rx.collected body chk) e rfl rfl
    obtain ⟨t, ht, rfl, hrest⟩ := runSteps_eightBytes hs hbody hin hq
    exact ⟨t, ht, hseek, hrest⟩
  · intro k h1 h7
    obtain ⟨t, ht, hstate, -⟩ := runSteps_insideFrame hs hlen hin h1 h7
    exact ⟨t, ht, hstate⟩

/-! ### What a collected frame holds -/

/-- Bytes before the index are kept while a body is stored. -/
theorem RxUnit.pushAll_rxBuf_of_lt {r : RxUnit} {bs : List Byte} {j : Nat} (h : r.rxIdx.val + bs.length ≤ 6)
    (hj : j < r.rxIdx.val) : (r.pushAll bs).rxBuf[j] = r.rxBuf[j] := by
  induction bs generalizing r with
  | nil => rfl
  | cons b bs ih =>
    rw [List.length_cons] at h
    have hidx := RxUnit.pushBody_rxIdx_val (r := r) b (by omega)
    simp only [RxUnit.pushAll_cons]
    rw [ih (by omega) (by omega)]
    simp only [RxUnit.pushBody_rxBuf]
    exact Vector.getElem_set_ne _ _ (by omega)

/-- Each byte of a stored body stands where the index pointed when it came. -/
theorem RxUnit.pushAll_rxBuf {r : RxUnit} {bs : List Byte} {k : Nat} (h : r.rxIdx.val + bs.length ≤ 6)
    (hk : k < bs.length) : (r.pushAll bs).rxBuf[r.rxIdx.val + k] = bs[k] := by
  induction bs generalizing r k with
  | nil => cases hk
  | cons b bs ih =>
    rw [List.length_cons] at h hk
    have hidx := RxUnit.pushBody_rxIdx_val (r := r) b (by omega)
    simp only [RxUnit.pushAll_cons]
    cases k with
    | zero =>
      rw [RxUnit.pushAll_rxBuf_of_lt (by omega) (by omega)]
      exact Vector.getElem_set_self _
    | succ k =>
      have hk' := ih (r := r.pushBody b) (k := k) (by omega) (by omega)
      simp only [hidx, Nat.add_right_comm _ 1 k] at hk'
      exact hk'

/-- Offsets 1 to 5 of a collected frame are its body. -/
theorem RxUnit.collected_rxBuf {r : RxUnit} {body : List Byte} (chk : Byte) {k : Nat} (hlen : body.length = 5)
    (hk : k < 5) : (r.collected body chk).rxBuf[1 + k] = body[k] := by
  have hbody := RxUnit.pushAll_rxBuf (r := r.startFrame) (bs := body) (k := k) (by simp [hlen]) (by omega)
  rw [← hbody]
  exact Vector.getElem_set_ne (by decide) _ (by omega)

/-- decode_params reads offsets 1 to 5 alone (R114). -/
theorem decodeParams_congr {a b : Vector Byte 8} (h : ∀ k, (hk : k < 5) → a[1 + k] = b[1 + k]) :
    decodeParams a = decodeParams b := by
  have h1 : a[1] = b[1] := h 0 (by decide)
  have h2 : a[2] = b[2] := h 1 (by decide)
  have h3 : a[3] = b[3] := h 2 (by decide)
  have h4 : a[4] = b[4] := h 3 (by decide)
  have h5 : a[5] = b[5] := h 4 (by decide)
  simp only [decodeParams, h1, h2, h3, h4, h5]

/-! ### The inbound frame (R117) -/

/-- Offsets 1 to 5 of an inbound frame: its opcode and its two parameters. -/
def commandBody (op : Byte) (p1 p2 : Half) : List Byte := [op, lo8 p1, hi8 p1, lo8 p2, hi8 p2]

theorem encodeCommand_toList (op : Byte) (p1 p2 : Half) :
    (encodeCommand op p1 p2).toList =
      eightBytes (commandBody op p1 p2) (commandBody op p1 p2).sum Config.endMarker := by
  have hcks : cks (commandHead op p1 p2) 1 5 = (commandBody op p1 p2).sum := cks_eq_sum _ 1 5
  rw [← hcks]
  rfl

/-- The parameters of a collected inbound frame are the ones it was made of. -/
theorem decodeParams_collected (r : RxUnit) (op : Byte) (p1 p2 : Half) (chk : Byte) :
    decodeParams (r.collected (commandBody op p1 p2) chk).rxBuf =
      { opcode := op, int1 := p1, int2 := p2, fbits := floatView p1 p2 } := by
  rw [← decodeParams_encodeCommand]
  refine decodeParams_congr fun k hk => ?_
  rw [RxUnit.collected_rxBuf chk rfl hk]
  interval_cases k <;> rfl

/-- Settles O32: the eighth byte is the end marker and the sum matches, so the row is END_ACCEPT. -/
theorem encodedCommandIsAcceptedOnce : Obligations.EncodedCommandIsAcceptedOnce := by
  intro s op p1 p2 rest hs hin
  rw [frameLine, encodeCommand_toList] at hin
  constructor
  · have haccept := rxAfter_accept (r := s.rx.collected (commandBody op p1 p2) (commandBody op p1 p2).sum) rfl rfl
      (by rw [RxUnit.collected_rxAcc, RxUnit.collected_rxBuf_checksum])
    rw [decodeParams_collected] at haccept
    obtain ⟨-, -, -, hgood, hfrm, hchk⟩ :=
      s.rx.collected_insideFrame (commandBody op p1 p2) (commandBody op p1 p2).sum
    obtain ⟨t, ht, hrx, hrest⟩ := runSteps_eightBytes hs rfl hin haccept
    rw [← hgood, ← hfrm, ← hchk]
    refine ⟨t, ht, ?_⟩
    rw [hrx]
    exact ⟨rfl, rfl, rfl, rfl, rfl, rfl, rfl, rfl, hrest⟩
  · intro k h1 h7
    obtain ⟨t, ht, -, hevent, -⟩ := runSteps_insideFrame hs rfl hin h1 h7
    exact ⟨t, ht, hevent⟩

/-- Settles O34: every byte in END leads back to SEEK, from where the frame is accepted (R141). -/
theorem frameAfterAnyEndOutcomeIsAccepted : Obligations.FrameAfterAnyEndOutcomeIsAccepted := by
  intro s b op p1 p2 rest hs h7 hin
  rw [List.append_assoc] at hin
  obtain ⟨q, hq, hseek⟩ := rxAfter_endMark_rxState b hs h7
  obtain ⟨u, hu, rfl, hrest⟩ := step_rxLine hin hq
  obtain ⟨⟨t, ht, hevent, hop, h1, h2, -⟩, -⟩ := encodedCommandIsAcceptedOnce u op p1 p2 rest hseek hrest
  exact ⟨t, (runSteps_of_step hu).trans ht, hevent, hop, h1, h2⟩

/-! ### One corrupted byte (R142) -/

/-- A change of one of the offsets 1 to 5 is a change of one byte of the body. -/
theorem eightBytes_set {body : List Byte} {chk e v : Byte} {k : Nat} (hk : k < body.length) :
    (eightBytes body chk e).set (k + 1) v = eightBytes (body.set k v) chk e := by
  rw [eightBytes, List.set_cons_succ, List.append_assoc, List.set_append_left k v hk, ← List.append_assoc, eightBytes]

theorem cks_eightBytes {body : List Byte} (chk e : Byte) (hlen : body.length = 5) :
    cks (eightBytes body chk e) 1 5 = body.sum := by
  rw [cks_eq_sum, eightBytes, List.drop_succ_cons, List.drop_zero, List.append_assoc, List.take_left' hlen]

/-- Settles O33: the received checksum is the sum of the unchanged body, which differs from the sum of what came (R120),
so the row is END_CHKERR. -/
theorem singleCorruptionIsAChecksumError : Obligations.SingleCorruptionIsAChecksumError := by
  intro s op p1 p2 k v rest hs h1 h5 hv hin
  have hdiff := checksumSeesOneChangedByte (encodeCommand op p1 p2).toList 1 5 k.val v h1 h5 k.isLt hv
  obtain ⟨j, hj⟩ := Nat.exists_eq_add_of_le' h1
  have hjlen : j < (commandBody op p1 p2).length := show j < 5 by omega
  have hlen : ((commandBody op p1 p2).set j v).length = 5 := List.length_set
  rw [Vector.toList_set, encodeCommand_toList, hj, eightBytes_set hjlen] at hin
  rw [encodeCommand_toList, hj, eightBytes_set hjlen, cks_eightBytes _ _ hlen, cks_eightBytes _ _ rfl] at hdiff
  have hchkerr := rxAfter_checksumErr
    (r := s.rx.collected ((commandBody op p1 p2).set j v) (commandBody op p1 p2).sum) rfl rfl
    (by rwa [RxUnit.collected_rxAcc, RxUnit.collected_rxBuf_checksum])
  obtain ⟨-, -, hslots, hgood, hfrm, hchk⟩ :=
    s.rx.collected_insideFrame ((commandBody op p1 p2).set j v) (commandBody op p1 p2).sum
  obtain ⟨t, ht, hrx, -⟩ := runSteps_eightBytes hs hlen hin hchkerr
  have hevent : t.rx.rxEvent = .checksumErr := by rw [hrx, RxUnit.toSeek_rxEvent]
  constructor
  · refine ⟨t, ht, hevent, ?_⟩
    rw [hrx, ← hgood, ← hfrm, ← hchk]
    exact ⟨rfl, rfl, rfl, hslots, rfl⟩
  · intro n hn
    rcases hn.lt_or_eq with hlt | rfl
    · rcases Nat.eq_zero_or_pos n with rfl | hpos
      · exact ⟨s, rfl, nofun⟩
      · obtain ⟨u, hu, -, hnone, -⟩ :=
          runSteps_insideFrame hs (by simp [hlen]) hin hpos (Nat.le_of_lt_succ hlt)
        exact ⟨u, hu, fun _ => by simp [hnone]⟩
    · exact ⟨t, ht, fun _ => by simp [hevent]⟩

end Sys2Proof.Machine

/-! ## The PID unit: the law of UPDATE, the widths of its terms, and what runs of UPDATEs keep (42_pid)

UPDATE computes on exact integers and narrows only what it writes, so each register gets one exact value, read from the
bounds of its term (R171); the two laws of R172 over runs are an induction over the list of UPDATEs. -/

namespace Sys2Proof.Machine

/-! ### Commands that write one register or none (R161, R162, R164 to R170) -/

/-- Settles O40. -/
theorem nopWritesOnlyTheStatus : Obligations.NopWritesOnlyTheStatus :=
  fun s => exec_command rfl s

/-- Settles O41. -/
theorem pidResetRebasesTheController : Obligations.PidResetRebasesTheController :=
  fun s now => ⟨s.withPid ((s.pid.rebase now).setStatus .ok), exec_command rfl s, rfl, rfl, rfl, rfl, rfl, rfl, rfl,
    ⟨rfl, rfl, rfl, rfl, rfl, rfl⟩, rfl, rfl, rfl⟩

/-- Settles O42. -/
theorem gainWritesTakeAnyValue : Obligations.GainWritesTakeAnyValue :=
  fun s _ => ⟨exec_command rfl s, exec_command rfl s, exec_command rfl s, exec_command rfl s⟩

/-- A refused bound writes nothing (R167). -/
theorem PidUnit.setMaxi_of_outOfRange {v : Word} (h : maxiStatus v = .outOfRange) (p : PidUnit) : p.setMaxi v = p := by
  rw [PidUnit.setMaxi, if_neg (by rw [h]; decide)]

theorem PidUnit.setMaxi_of_ok {v : Word} (h : maxiStatus v = .ok) (p : PidUnit) :
    p.setMaxi v = { p with maxi := v } := by
  rw [PidUnit.setMaxi, if_pos h]

/-- Settles O43: one test of the sign decides what MAXI and CMD_STATUS take. -/
theorem wrMaxiRefusesNegativeBounds : Obligations.WrMaxiRefusesNegativeBounds := by
  intro s v
  have hexec : exec (.pidWrMaxi v) s = .next (s.withPid ((s.pid.setMaxi v).setStatus (maxiStatus v))) :=
    exec_command rfl s
  by_cases hneg : v.toInt < 0
  · have hstatus : maxiStatus v = .outOfRange := if_pos hneg
    rw [hexec, if_pos hneg, hstatus, PidUnit.setMaxi_of_outOfRange hstatus]
    rfl
  · have hstatus : maxiStatus v = .ok := if_neg hneg
    rw [hexec, if_neg hneg, hstatus, PidUnit.setMaxi_of_ok hstatus]
    rfl

/-- A refused direction writes nothing (R168). -/
theorem PidUnit.setDir_of_outOfRange {v : Word} (h : dirStatus v = .outOfRange) (p : PidUnit) : p.setDir v = p := by
  rw [PidUnit.setDir, if_neg (by rw [h]; decide)]

/-- Settles O44: DIR_NEG takes bit 0 of the two values in range. -/
theorem wrDirTakesZeroOrOne : Obligations.WrDirTakesZeroOrOne := by
  intro s v
  have hexec : exec (.pidWrDir v) s = .next (s.withPid ((s.pid.setDir v).setStatus (dirStatus v))) :=
    exec_command rfl s
  rw [hexec]
  by_cases h0 : v = 0
  · subst h0
    rfl
  by_cases h1 : v = 1
  · subst h1
    rfl
  · have hstatus : dirStatus v = .outOfRange := if_neg (not_or.2 ⟨h0, h1⟩)
    rw [if_neg h0, if_neg h1, hstatus, PidUnit.setDir_of_outOfRange hstatus]
    rfl

theorem cmdAfter_of_reserved {c : PidCommand} (h : 9 ≤ c.op.toNat) (p : PidUnit) :
    cmdAfter c p = p.setStatus .illegalOp := by
  unfold cmdAfter
  split
  case h_10 => rfl
  all_goals omega

/-- Settles O45: the three rows by their arms, every command of the reserved op codes by R84's table. -/
theorem reservedOpsOnlyReportIllegalOp : Obligations.ReservedOpsOnlyReportIllegalOp := by
  intro s
  refine ⟨exec_command rfl s, fun _ => exec_command rfl s, fun _ => exec_command rfl s, fun c hc => ?_⟩
  rw [exec_decodeCmd, cmdAfter_of_reserved hc]
  rfl

/-! ### The terms of UPDATE, bounded (R171) -/

theorem abs_word_toInt_le (w : Word) : |w.toInt| ≤ 2 ^ 31 := by
  obtain ⟨hlo, hhi⟩ := word_toInt_range w
  exact abs_le.2 ⟨hlo, hhi.le⟩

/-- The magnitude of a quotient is the quotient of the magnitudes, as integers. -/
theorem abs_tdiv {b : Int} (a : Int) (h : b ≠ 0) : |tdiv a b| = |a| / |b| := by
  rw [Int.abs_eq_natAbs, Int.abs_eq_natAbs, Int.abs_eq_natAbs, natAbs_tdiv a h, Int.natCast_ediv]

theorem abs_updErr_le (tgt : Word) : |updErr tgt| ≤ 2 ^ 31 - 1 := by
  obtain ⟨hlo, hhi⟩ := word_toInt_range tgt
  rw [updErr_eq_min, abs_le]
  omega

theorem abs_updDelta_le (p : PidUnit) (tgt : Word) : |updDelta p tgt| ≤ 2 ^ 32 - 1 :=
  calc |updErr tgt - p.prevErr.toInt|
      ≤ |updErr tgt| + |p.prevErr.toInt| := abs_sub _ _
    _ ≤ (2 ^ 31 - 1) + 2 ^ 31 := add_le_add (abs_updErr_le tgt) (abs_word_toInt_le p.prevErr)
    _ = 2 ^ 32 - 1 := by norm_num

/-- A register times a bounded term. -/
theorem abs_word_toInt_mul_le (w : Word) {x n : Int} (h : |x| ≤ n) : |w.toInt * x| ≤ 2 ^ 31 * n := by
  rw [abs_mul]
  exact mul_le_mul (abs_word_toInt_le w) h (abs_nonneg x) (by norm_num)

theorem abs_updP_le (p : PidUnit) (tgt : Word) : |updP p tgt| ≤ 2 ^ 46 := by
  have hprod := abs_word_toInt_mul_le p.kp (abs_updErr_le tgt)
  rw [updP, abs_tdiv _ fxOne_ne_zero, show |Config.fxOne| = 2 ^ 16 from rfl]
  omega

theorem abs_updI_le {p : PidUnit} (tgt : Word) (h : 0 ≤ p.maxi.toInt) : |updI p tgt| ≤ p.maxi.toInt :=
  abs_le.2 ⟨le_clamp (by omega), clamp_le (by omega)⟩

/-- Where dt ≠ 0 the divisor of D is at least 2^FB. -/
theorem fxOne_le_updDt_mul_fxOne {p : PidUnit} {now : Word} (h : updDt p now ≠ 0) :
    Config.fxOne ≤ (updDt p now).toNat * Config.fxOne := by
  have hpos : (updDt p now).toNat ≠ 0 := fun h0 => h (BitVec.eq_of_toNat_eq h0)
  exact le_mul_of_one_le_left (by decide) (by omega)

theorem abs_updD_lt (p : PidUnit) (tgt now : Word) : |updD p tgt now| < 2 ^ 47 := by
  have hprod := abs_word_toInt_mul_le p.kd (abs_updDelta_le p tgt)
  unfold updD
  split
  case isTrue => norm_num
  case isFalse hdt =>
    have hdiv := fxOne_le_updDt_mul_fxOne hdt
    rw [abs_tdiv _ (updDt_mul_fxOne_ne_zero hdt)]
    refine Int.ediv_lt_of_lt_mul (abs_pos.2 (updDt_mul_fxOne_ne_zero hdt)) ?_
    rw [abs_of_nonneg (le_trans (by decide) hdiv)]
    calc |p.kd.toInt * updDelta p tgt| ≤ 2 ^ 31 * (2 ^ 32 - 1) := hprod
      _ < 2 ^ 47 * Config.fxOne := by decide
      _ ≤ 2 ^ 47 * ((updDt p now).toNat * Config.fxOne) := by gcongr

/-- Settles O47, term by term. -/
theorem updateTermsFitTheirWidths : Obligations.UpdateTermsFitTheirWidths := by
  intro p tgt now hmaxi
  have hP := abs_updP_le p tgt
  have hI : |updI p tgt| ≤ 2 ^ 31 - 1 := (abs_updI_le tgt hmaxi).trans (by have := word_toInt_range p.maxi; omega)
  have hD := abs_updD_lt p tgt now
  have hsum : |updSum p tgt now| ≤ |updP p tgt| + |updI p tgt| + |updD p tgt now| := abs_add_three _ _ _
  have hkpe := abs_word_toInt_mul_le p.kp (abs_updErr_le tgt)
  have hkdde := abs_word_toInt_mul_le p.kd (abs_updDelta_le p tgt)
  exact ⟨abs_updErr_le tgt, abs_updDelta_le p tgt, by omega, hP, hI, by omega, hD, by omega⟩

/-! ### What UPDATE writes, as exact integers (R163) -/

theorem exec_pidUpdate (tgt now : Word) (s : State) :
    exec (.pidUpdate tgt now) s = .next (s.withPid ((s.pid.update tgt now).setStatus .ok)) := exec_command rfl s

/-- dt is the difference of the times modulo 2^TW (D14). -/
theorem updDt_toNat (p : PidUnit) (now : Word) :
    ((updDt p now).toNat : Int) = ((now.toNat : Int) - p.prevTime.toNat) % 2 ^ 32 := by
  rw [updDt, BitVec.toNat_sub]
  omega

theorem updDt_eq_zero_iff (p : PidUnit) (now : Word) :
    updDt p now = 0 ↔ ((now.toNat : Int) - p.prevTime.toNat) % 2 ^ 32 = 0 := by
  rw [← updDt_toNat, ← BitVec.toNat_inj]
  norm_cast

theorem PidUnit.update_prevErr_toInt (p : PidUnit) (tgt now : Word) :
    (p.update tgt now).prevErr.toInt = updErr tgt := by
  obtain ⟨hlo, hhi⟩ := abs_le.1 (abs_updErr_le tgt)
  exact narrow32_toInt (by omega) (by omega)

theorem PidUnit.update_iAcc_toInt {p : PidUnit} (tgt now : Word) (h : 0 ≤ p.maxi.toInt) :
    (p.update tgt now).iAcc.toInt = updI p tgt := by
  obtain ⟨hlo, hhi⟩ := abs_le.1 (abs_updI_le tgt h)
  obtain ⟨-, hmaxi⟩ := word_toInt_range p.maxi
  exact narrow32_toInt (by omega) (by omega)

theorem PidUnit.update_servoOut_toInt (p : PidUnit) (tgt now : Word) :
    (p.update tgt now).servoOut.toInt = updServo p tgt now :=
  narrow32_toInt (le_trans (by decide) (le_clamp (by decide))) (lt_of_le_of_lt (clamp_le (by decide)) (by decide))

/-- Settles O46: each register written is the narrowing of a term that fits, and each term is R163's. -/
theorem updateComputesThePidLaw : Obligations.UpdateComputesThePidLaw := by
  intro s tgt now hmaxi
  refine ⟨_, exec_pidUpdate tgt now s, ?_, rfl, rfl, ⟨rfl, rfl, rfl, rfl, rfl, rfl⟩, rfl, rfl, rfl⟩
  intro e de dt p inew d sum raw
  have he : updErr tgt = e := by rw [updErr, sat32, clamp_eq_max_min (by decide)]
  have hde : updDelta s.pid tgt = de := by rw [updDelta, he]
  have hdt : ((updDt s.pid now).toNat : Int) = dt := updDt_toNat s.pid now
  have hdt0 : updDt s.pid now = 0 ↔ dt = 0 := updDt_eq_zero_iff s.pid now
  have hp : updP s.pid tgt = p := by
    rw [updP_eq_tdiv, he]
    rfl
  have hinew : updI s.pid tgt = inew := by
    rw [updI_eq_tdiv, he]
    exact clamp_eq_max_min (by omega)
  have hd : updD s.pid tgt now = d := by
    rw [updD_eq_tdiv, hde, hdt]
    exact if_congr hdt0 rfl rfl
  have hsum : updSum s.pid tgt now = sum := by rw [updSum, hp, hinew, hd]
  have hraw : updRaw s.pid tgt now = raw := by rw [updRaw, hsum]
  refine ⟨(PidUnit.update_iAcc_toInt tgt now hmaxi).trans hinew, (s.pid.update_prevErr_toInt tgt now).trans he, rfl,
    ?_, decide_eq_true_iff.trans hdt0⟩
  calc (s.pid.update tgt now).servoOut.toInt
      = updServo s.pid tgt now := s.pid.update_servoOut_toInt tgt now
    _ = max (-Config.servoLimit) (min raw Config.servoLimit) := by rw [updServo, hraw, clamp_eq_max_min (by decide)]

/-- Settles O48. -/
theorem updateOutputsAreBounded : Obligations.UpdateOutputsAreBounded :=
  fun s tgt now => ⟨_, exec_pidUpdate tgt now s, abs_le.2 (s.pid.update_servoOut_bounds tgt now),
    fun hmaxi => abs_le.2 (PidUnit.update_iAcc_bounds tgt now hmaxi)⟩

/-! ### A RESET and a line of UPDATEs, step by step -/

/-- The PID unit after an UPDATE of each target and time listed (R163). -/
def PidUnit.updateAll (p : PidUnit) (us : List (Word × Word)) : PidUnit :=
  us.foldl (fun q u => (q.update u.1 u.2).setStatus .ok) p

theorem PidUnit.updateAll_cons (p : PidUnit) (u : Word × Word) (us : List (Word × Word)) :
    p.updateAll (u :: us) = ((p.update u.1 u.2).setStatus .ok).updateAll us := rfl

/-- A step that carries one command alone. -/
theorem step_cmdLine {s : State} {op : BitVec 4} {data now : Word} {rest : List StepInput}
    (hin : s.inputs = cmdLine op data now ++ rest) :
    ∃ t, step s = .next t ∧ t.pid = cmdAfter { op := op, data := data, now := now } s.pid ∧ t.inputs = rest := by
  have hnext : s.nextInput = { StepInput.idle with cmd := some { op := op, data := data, now := now } } := by
    rw [State.nextInput, hin]
    rfl
  have hstep := step_of_rxAfter (s := s) (r := s.rx.setEvent .none) (by rw [hnext]; rfl) (by rw [hnext]; rfl)
  refine ⟨_, hstep, ?_, ?_⟩
  · simp only [hnext]
    rfl
  · simp only [hin]
    rfl

/-- A run over the first `k` UPDATEs of a line. -/
theorem runSteps_updateLines {us : List (Word × Word)} {rest : List StepInput} {s : State} {k : Nat}
    (hin : s.inputs = updateLines us ++ rest) (hk : k ≤ us.length) :
    ∃ t, runSteps k s = .next t ∧ t.pid = s.pid.updateAll (us.take k) := by
  induction k generalizing s us with
  | zero => exact ⟨s, rfl, rfl⟩
  | succ k ih =>
    cases us with
    | nil => cases hk
    | cons u us =>
      obtain ⟨v, hstep, hpid, hrest⟩ := step_cmdLine (op := 0x2) (data := u.1) (now := u.2) hin
      obtain ⟨t, ht, heq⟩ := ih hrest (Nat.le_of_succ_le_succ hk)
      refine ⟨t, (runSteps_of_step hstep).trans ht, ?_⟩
      rw [heq, hpid, cmdAfter_of_update rfl, List.take_succ_cons, PidUnit.updateAll_cons]

/-- A run over a RESET and the first `k` UPDATEs after it. -/
theorem runSteps_reset_updateLines {us : List (Word × Word)} {rest : List StepInput} {s : State} {n0 : Word} {k : Nat}
    (hin : s.inputs = cmdLine 0x1 0 n0 ++ updateLines us ++ rest) (hk : k ≤ us.length) :
    ∃ t, runSteps (k + 1) s = .next t ∧ t.pid = ((s.pid.rebase n0).setStatus .ok).updateAll (us.take k) := by
  rw [List.append_assoc] at hin
  obtain ⟨v, hstep, hpid, hrest⟩ := step_cmdLine hin
  obtain ⟨t, ht, heq⟩ := runSteps_updateLines hrest hk
  refine ⟨t, (runSteps_of_step hstep).trans ht, ?_⟩
  rw [heq, hpid, cmdAfter_of_reset rfl]

/-! ### Target zero (R172 a) -/

/-- A unit whose error, integral and output are zero. -/
def PidUnit.atRest (p : PidUnit) : Prop := p.servoOut = 0 ∧ p.iAcc = 0 ∧ p.prevErr = 0

theorem updErr_zero : updErr 0 = 0 := by decide

/-- UPDATE with target 0 has every term zero, so it leaves a unit at rest there. -/
theorem PidUnit.update_zero_atRest {p : PidUnit} (now : Word) (h : p.atRest) (hmaxi : 0 ≤ p.maxi.toInt) :
    (p.update 0 now).atRest := by
  obtain ⟨-, hiAcc, hprev⟩ := h
  have hP : updP p 0 = 0 := by rw [updP, updErr_zero, mul_zero, tdiv_zero_left fxOne_ne_zero]
  have hI : updI p 0 = 0 := by
    rw [updI, updErr_zero, mul_zero, tdiv_zero_left fxOne_ne_zero, hiAcc, show (0 : Word).toInt = 0 from rfl,
      add_zero, clamp_eq_max_min (by omega)]
    omega
  have hD : updD p 0 now = 0 := by
    have hdelta : updDelta p 0 = 0 := by
      rw [updDelta, updErr_zero, hprev]
      rfl
    rw [updD_eq_tdiv, hdelta, mul_zero, Int.zero_tdiv, ite_self]
  have hsum : updSum p 0 now = 0 := by
    rw [updSum, hP, hI, hD]
    rfl
  have hraw : updRaw p 0 now = 0 := by rw [updRaw, hsum, neg_zero, ite_self]
  refine ⟨?_, ?_, ?_⟩
  · rw [PidUnit.update_servoOut, updServo, hraw]
    decide
  · rw [PidUnit.update_iAcc, hI]
    rfl
  · rw [PidUnit.update_prevErr, updErr_zero]
    rfl

theorem PidUnit.updateAll_zero_atRest {p : PidUnit} {us : List (Word × Word)} (hus : ∀ u ∈ us, u.1 = 0)
    (h : p.atRest) (hmaxi : 0 ≤ p.maxi.toInt) : (p.updateAll us).atRest := by
  induction us generalizing p with
  | nil => exact h
  | cons u us ih =>
    obtain ⟨hu, hus⟩ := List.forall_mem_cons.1 hus
    rw [PidUnit.updateAll_cons, hu]
    exact ih hus (PidUnit.update_zero_atRest u.2 h hmaxi) hmaxi

/-- Settles O49: RESET brings the unit to rest, and target 0 keeps it there. -/
theorem zeroTargetHoldsTheServoAtZero : Obligations.ZeroTargetHoldsTheServoAtZero := by
  intro s n0 nows rest hmaxi hin k hk
  obtain ⟨t, ht, hpid⟩ := runSteps_reset_updateLines (k := k) hin (by rwa [List.length_map])
  have hzero : ∀ u ∈ (nows.map fun n => ((0 : Word), n)).take k, u.1 = 0 := by
    intro u hu
    obtain ⟨n, -, rfl⟩ := List.mem_map.1 (List.mem_of_mem_take hu)
    rfl
  exact ⟨t, ht, hpid ▸ PidUnit.updateAll_zero_atRest hzero ⟨rfl, rfl, rfl⟩ hmaxi⟩

/-! ### Opposite targets (R172 d) -/

/-- R172 (d) leaves out −2^31, the one target whose error saturates (D12). -/
theorem updErr_neg {tgt : Word} (h : tgt.toInt ≠ -2 ^ 31) : updErr (-tgt) = -updErr tgt := by
  obtain ⟨hlo, hhi⟩ := word_toInt_range tgt
  have hneg : (-tgt).toInt = -tgt.toInt := BitVec.toInt_neg_of_ne_intMin fun hmin => h (by rw [hmin]; rfl)
  rw [updErr_eq_min, updErr_eq_min, hneg]
  omega

section Mirrored

variable {p q : PidUnit} {tgt tgt' : Word}

theorem updP_of_mirrors (h : p.mirrors q) (he : updErr tgt' = -updErr tgt) : updP q tgt' = -updP p tgt := by
  obtain ⟨⟨hkp, -⟩, -⟩ := h
  rw [updP, updP, hkp, he, mul_neg, tdiv_neg_left _ fxOne_ne_zero]

theorem updI_of_mirrors (h : p.mirrors q) (he : updErr tgt' = -updErr tgt) (hmaxi : 0 ≤ p.maxi.toInt) :
    updI q tgt' = -updI p tgt := by
  obtain ⟨⟨-, hki, -, hmax, -⟩, -, hiAcc, -⟩ := h
  rw [updI, updI, hki, hmax, hiAcc, he, mul_neg, tdiv_neg_left _ fxOne_ne_zero, ← neg_add, clamp_neg hmaxi]

theorem updDelta_of_mirrors (h : p.mirrors q) (he : updErr tgt' = -updErr tgt) :
    updDelta q tgt' = -updDelta p tgt := by
  obtain ⟨-, -, -, hprev, -⟩ := h
  rw [updDelta, updDelta, he, hprev]
  ring

theorem updDt_of_mirrors (h : p.mirrors q) (now : Word) : updDt q now = updDt p now := by
  obtain ⟨-, htime, -⟩ := h
  rw [updDt, updDt, htime]

theorem updD_of_mirrors (h : p.mirrors q) (he : updErr tgt' = -updErr tgt) (now : Word) :
    updD q tgt' now = -updD p tgt now := by
  have hdelta := updDelta_of_mirrors h he
  have hdt := updDt_of_mirrors h now
  obtain ⟨⟨-, -, hkd, -⟩, -⟩ := h
  rw [updD_eq_tdiv, updD_eq_tdiv, hkd, hdelta, hdt, mul_neg, Int.neg_tdiv]
  split
  · rfl
  · rfl

theorem updServo_of_mirrors (h : p.mirrors q) (he : updErr tgt' = -updErr tgt) (hmaxi : 0 ≤ p.maxi.toInt)
    (now : Word) : updServo q tgt' now = -updServo p tgt now := by
  have hsum : updSum q tgt' now = -updSum p tgt now := by
    rw [updSum, updSum, updP_of_mirrors h he, updI_of_mirrors h he hmaxi, updD_of_mirrors h he now]
    ring
  have hraw : updRaw q tgt' now = -updRaw p tgt now := by
    obtain ⟨⟨-, -, -, -, hdir, -⟩, -⟩ := h
    cases hp : p.dirNeg <;> simp [updRaw, hdir, hp, hsum]
  rw [updServo, updServo, hraw, clamp_neg (by decide)]

/-- Every term of UPDATE is odd in the error, so mirrored units stay mirrored under opposite targets. -/
theorem PidUnit.mirrors.update (h : p.mirrors q) (hmaxi : 0 ≤ p.maxi.toInt) (he : updErr tgt' = -updErr tgt)
    (now : Word) : (p.update tgt now).mirrors (q.update tgt' now) := by
  obtain ⟨-, -, -, hmax, -⟩ := h.1
  have hqmaxi : 0 ≤ q.maxi.toInt := by rwa [hmax]
  refine ⟨h.1, rfl, ?_, ?_, ?_, ?_⟩
  · rw [PidUnit.update_iAcc_toInt tgt' now hqmaxi, PidUnit.update_iAcc_toInt tgt now hmaxi, updI_of_mirrors h he hmaxi]
  · rw [PidUnit.update_prevErr_toInt, PidUnit.update_prevErr_toInt, he]
  · rw [PidUnit.update_servoOut_toInt, PidUnit.update_servoOut_toInt, updServo_of_mirrors h he hmaxi now]
  · rw [PidUnit.update_dtZero, PidUnit.update_dtZero, dtZeroFlag, dtZeroFlag, updDt_of_mirrors h now]

/-- The same along a list of UPDATEs at the same times. -/
theorem PidUnit.mirrors.updateAll {us : List (Word × Word)} (h : p.mirrors q) (hmaxi : 0 ≤ p.maxi.toInt)
    (hus : ∀ u ∈ us, u.1.toInt ≠ -2 ^ 31) :
    (p.updateAll us).mirrors (q.updateAll (us.map fun u => (-u.1, u.2))) := by
  induction us generalizing p q with
  | nil => exact h
  | cons u us ih =>
    obtain ⟨hu, hus⟩ := List.forall_mem_cons.1 hus
    rw [List.map_cons, PidUnit.updateAll_cons, PidUnit.updateAll_cons]
    exact ih (h.update hmaxi (updErr_neg hu) u.2) hmaxi hus

end Mirrored

theorem PidUnit.rebase_mirrors {p q : PidUnit} (h : p.sameSettings q) (now : Word) :
    ((p.rebase now).setStatus .ok).mirrors ((q.rebase now).setStatus .ok) :=
  ⟨h, rfl, rfl, rfl, rfl, rfl⟩

/-- Settles O50: after the two RESETs the units mirror each other, whatever they held before, and every UPDATE keeps
that. -/
theorem oppositeTargetsGiveOppositeOutputs : Obligations.OppositeTargetsGiveOppositeOutputs := by
  intro s s' n0 us rest rest' hset hmaxi hus hin hin' k hk
  obtain ⟨t, ht, hpid⟩ := runSteps_reset_updateLines hin hk
  obtain ⟨t', ht', hpid'⟩ := runSteps_reset_updateLines (k := k) hin' (by rwa [List.length_map])
  refine ⟨t, t', ht, ht', ?_⟩
  rw [hpid, hpid', ← List.map_take]
  exact PidUnit.mirrors.updateAll (PidUnit.rebase_mirrors hset n0) hmaxi fun u hu => hus u (List.mem_of_mem_take hu)

end Sys2Proof.Machine

/-! ## Runs of any steps and shifts of time (R230, R245, R247, R249)

No run from a parser state of R23 is stuck, the block reset included; the slots hold for seven steps from SEEK; UPDATE
reads time as a difference. -/

namespace Sys2Proof.Machine

/-! ### Runs from an invariant (R230, R249) -/

/-- Where every step from an invariant answers next and keeps it, so does every run. -/
theorem runSteps_of_invariant {P : State → Prop} (hstep : ∀ s, P s → ∃ t, step s = .next t ∧ P t) (n : Nat)
    {s : State} (hs : P s) : ∃ t, runSteps n s = .next t ∧ P t := by
  induction n generalizing s with
  | zero => exact ⟨s, rfl, hs⟩
  | succ n ih =>
    obtain ⟨u, hu, hPu⟩ := hstep s hs
    rw [runSteps_of_step hu]
    exact ih hPu

/-- Every row of the receive port keeps R23, and so does a step without a byte. -/
theorem rxAfter_indexed {x : Option Byte} {r q : RxUnit} (hr : r.indexed) (h : rxAfter x r = some q) : q.indexed := by
  rcases rxAfter_cases h with ⟨-, rfl⟩ | ⟨b, -, hrow⟩
  · exact hr
  · rcases hrow with ⟨-, -, rfl⟩ | ⟨-, -, rfl⟩ | ⟨hs, h1, h5, rfl⟩ | ⟨-, -, rfl⟩ | ⟨-, -, -, -, rfl⟩ |
      ⟨-, -, -, -, rfl⟩ | ⟨-, -, -, rfl⟩
    · exact ⟨le_rfl, show 1 ≤ 6 by decide⟩
    · exact hr
    · have hidx := RxUnit.pushBody_rxIdx_val b h5
      simp only [RxUnit.indexed, RxUnit.pushBody_rxState, hs, hidx]
      omega
    all_goals exact rfl

/-- From a parser state of R23 every step answers next, and keeps R23. -/
theorem step_of_indexed {s : State} (hs : s.rx.indexed) : ∃ t, step s = .next t ∧ t.rx.indexed := by
  cases hrst : s.nextInput.rst with
  | true => exact ⟨_, step_of_rst hrst, rfl⟩
  | false =>
    obtain ⟨q, hq⟩ := rxAfter_of_indexed s.nextInput.rx hs
    exact ⟨_, step_of_rxAfter hrst hq, rxAfter_indexed hs hq⟩

/-- Settles O13: R23 is an invariant under which every step answers next. -/
theorem runsAreNeverStuck : Obligations.RunsAreNeverStuck := fun n _ hs =>
  runSteps_of_invariant (P := fun s => s.rx.indexed) (fun _ => step_of_indexed) n hs

/-- Settles O9. -/
theorem blockResetStep : Obligations.BlockResetStep := by
  intro s x rest hin hrst
  have hnext : s.nextInput = x := by rw [State.nextInput, hin, List.headD_cons]
  rw [step_of_rst (hnext ▸ hrst), State.blockReset, State.dropInput_inputs, hin, List.tail_cons]

/-! ### How long the slots are sure to hold (R245) -/

/-- `n` more bytes, whatever they are, do not take the parser past END: a frame has seven bytes before its last, and
RX_IDX counts those received. In SEEK the index does not matter (R131). -/
def RxUnit.endsAfter (r : RxUnit) (n : Nat) : Prop :=
  match r.rxState with
  | .seek => n ≤ 7
  | .body => 1 ≤ r.rxIdx.val ∧ r.rxIdx.val + n ≤ 7
  | .endMark => n = 0

theorem RxUnit.endsAfter_iff_of_seek {n : Nat} {r : RxUnit} (hs : r.rxState = .seek) : r.endsAfter n ↔ n ≤ 7 := by
  simp only [RxUnit.endsAfter, hs]

theorem RxUnit.endsAfter_iff_of_body {n : Nat} {r : RxUnit} (hs : r.rxState = .body) :
    r.endsAfter n ↔ 1 ≤ r.rxIdx.val ∧ r.rxIdx.val + n ≤ 7 := by
  simp only [RxUnit.endsAfter, hs]

theorem RxUnit.endsAfter_iff_of_endMark {n : Nat} {r : RxUnit} (hs : r.rxState = .endMark) :
    r.endsAfter n ↔ n = 0 := by
  simp only [RxUnit.endsAfter, hs]

/-- A step without a byte brings the end no nearer, and leaves one step less to go. -/
theorem RxUnit.endsAfter.setEvent {n : Nat} {r : RxUnit} (h : r.endsAfter (n + 1)) (e : RxEvent) :
    (r.setEvent e).endsAfter n := by
  cases hs : r.rxState with
  | seek => exact (endsAfter_iff_of_seek (r := r.setEvent e) hs).2 (Nat.le_of_succ_le ((endsAfter_iff_of_seek hs).1 h))
  | body =>
    obtain ⟨h1, h7⟩ := (endsAfter_iff_of_body hs).1 h
    exact (endsAfter_iff_of_body (r := r.setEvent e) hs).2 ⟨h1, Nat.le_of_succ_le h7⟩
  | endMark => cases (endsAfter_iff_of_endMark hs).1 h

theorem rxAfter_discard {r : RxUnit} {b : Byte} (hs : r.rxState = .seek) (hb : b ≠ Config.startMarker) :
    rxAfter (some b) r = some (r.setEvent .none) := by
  simp [rxAfter, hs, hb]

/-- While the last byte of a frame is out of reach, a step on the receive port reports nothing, keeps the slots, and
brings the end nearer by at most one byte. -/
theorem rxAfter_of_endsAfter {n : Nat} {r : RxUnit} (x : Option Byte) (h : r.endsAfter (n + 1)) :
    ∃ q, rxAfter x r = some q ∧ q.endsAfter n ∧ q.rxEvent = .none ∧ r.sameSlots q := by
  cases x with
  | none => exact ⟨_, rfl, h.setEvent .none, rfl, rfl, rfl, rfl, rfl⟩
  | some b =>
    cases hs : r.rxState with
    | seek =>
      by_cases hb : b = Config.startMarker
      · subst hb
        have hn : 1 + n ≤ 7 := Nat.add_comm n 1 ▸ (RxUnit.endsAfter_iff_of_seek hs).1 h
        exact ⟨_, rxAfter_startMarker hs, ⟨le_rfl, hn⟩, rfl, rfl, rfl, rfl, rfl⟩
      · exact ⟨_, rxAfter_discard hs hb, h.setEvent .none, rfl, rfl, rfl, rfl, rfl⟩
    | body =>
      obtain ⟨h1, h7⟩ := (RxUnit.endsAfter_iff_of_body hs).1 h
      by_cases h5 : r.rxIdx.val ≤ 5
      · have hidx := RxUnit.pushBody_rxIdx_val b h5
        have hends : (r.pushBody b).endsAfter n := (RxUnit.endsAfter_iff_of_body (r := r.pushBody b) hs).2 (by omega)
        exact ⟨_, rxAfter_body b hs h1 h5, hends, rfl, rfl, rfl, rfl, rfl⟩
      · exact ⟨_, rxAfter_checksum b hs (by omega), show n = 0 by omega, rfl, rfl, rfl, rfl, rfl⟩
    | endMark => cases (RxUnit.endsAfter_iff_of_endMark hs).1 h

theorem RxUnit.sameSlots.trans {r q p : RxUnit} (h : r.sameSlots q) (h' : q.sameSlots p) : r.sameSlots p := by
  obtain ⟨hop, hint1, hint2, hfbits⟩ := h
  obtain ⟨hop', hint1', hint2', hfbits'⟩ := h'
  exact ⟨hop'.trans hop, hint1'.trans hint1, hint2'.trans hint2, hfbits'.trans hfbits⟩

/-- Over that many steps short of the block reset the slots hold, and no step reports an event. -/
theorem runSteps_of_endsAfter {n : Nat} {s : State} (hs : s.rx.endsAfter n)
    (hrst : ∀ x ∈ s.inputs.take n, x.rst = false) :
    ∃ t, runSteps n s = .next t ∧ s.rx.sameSlots t.rx ∧ (1 ≤ n ∨ s.rx.rxEvent = .none → t.rx.rxEvent = .none) := by
  induction n generalizing s with
  | zero => exact ⟨s, rfl, ⟨rfl, rfl, rfl, rfl⟩, fun h => h.resolve_left nofun⟩
  | succ n ih =>
    obtain ⟨hfirst, hrest⟩ := State.nextInput_of_take (P := fun x => x.rst = false) rfl hrst
    obtain ⟨q, hq, hends, hevent, hslots⟩ := rxAfter_of_endsAfter s.nextInput.rx hs
    rw [runSteps_of_step (step_of_rxAfter hfirst hq)]
    obtain ⟨t, ht, hslots', hevent'⟩ := ih (s := { rx := q, tx := _, pid := _, inputs := s.inputs.tail }) hends hrest
    exact ⟨t, ht, hslots.trans hslots', fun _ => hevent' (.inr hevent)⟩

/-- Settles O36: from SEEK the last byte of a frame is the eighth. -/
theorem slotsHoldForSevenSteps : Obligations.SlotsHoldForSevenSteps := by
  intro s n hs hn hrst
  obtain ⟨t, ht, hslots, hevent⟩ := runSteps_of_endsAfter ((RxUnit.endsAfter_iff_of_seek hs).2 hn) hrst
  exact ⟨t, ht, hslots, fun h1 => by rw [hevent (.inl h1)]; exact nofun⟩

/-! ### UPDATE and time: PREV_TIME and `now` enter by their difference alone (R247, R163) -/

theorem updDt_shift (p : PidUnit) (now c : Word) :
    updDt { p with prevTime := p.prevTime + c } (now + c) = updDt p now :=
  add_sub_add_right_eq_sub now p.prevTime c

/-- SERVO_OUT's value under another baseline and time that are as far apart. -/
theorem updServo_of_updDt_eq {p : PidUnit} {base now now' : Word}
    (h : updDt { p with prevTime := base } now' = updDt p now) (tgt : Word) :
    updServo { p with prevTime := base } tgt now' = updServo p tgt now := by
  have hD : updD { p with prevTime := base } tgt now' = updD p tgt now := by
    rw [updD, updD, h]
    rfl
  simp only [updServo, updRaw, updSum, hD]
  rfl

/-- UPDATE under another baseline and time that are as far apart: only PREV_TIME comes out different. -/
theorem PidUnit.update_of_updDt_eq {p : PidUnit} {base now now' : Word}
    (h : updDt { p with prevTime := base } now' = updDt p now) (tgt : Word) :
    PidUnit.update { p with prevTime := base } tgt now' = { p.update tgt now with prevTime := now' } := by
  rw [PidUnit.update, dtZeroFlag, updServo_of_updDt_eq h, h]
  rfl

/-- Settles O51: adding c to both times leaves dt as it is. -/
theorem updateDependsOnTimeDifferences : Obligations.UpdateDependsOnTimeDifferences := by
  intro s tgt now c
  refine ⟨_, exec_pidUpdate tgt now s, ?_⟩
  rw [exec_pidUpdate, PidUnit.update_of_updDt_eq (updDt_shift s.pid now c)]
  rfl

end Sys2Proof.Machine
